-- ==== Sys2Proof/Word.lean ====
section
/-! DEFINITION. The words of the block: bytes, nibbles, symbols, levels (spec/00_scope.md R16 to R18). -/

namespace Sys2Proof

/-- u8 (R17). -/
abbrev Byte := BitVec 8

/-- A 4-bit data nibble (R16). -/
abbrev Nibble := BitVec 4

/-- A 5-bit GCR symbol (R16, R77). -/
abbrev Symbol := BitVec 5

/-- A level of the line or of the pin: true is high, 1 (R46). -/
abbrev Level := Bool

/-- A 2-byte value from its more significant byte and its less significant byte: `{a, b}` of R18. -/
def word16 (hi lo : Byte) : BitVec 16 := hi ++ lo

/-- Bits 15:8 of a 16-bit value (R18). -/
def hiByte (w : BitVec 16) : Byte := w.extractLsb' 8 8

/-- Bits 7:0 of a 16-bit value (R18). -/
def loByte (w : BitVec 16) : Byte := w.extractLsb' 0 8

end Sys2Proof
end

