-- ==== Sys2Proof/Config.lean ====
section
/-! DEFINITION. The configuration of the block (spec/00_scope.md R6 to R14), its static assertions, and the free values. -/

namespace Sys2Proof

/-- The four protocol speeds (R7). -/
inductive Speed where
  | dshot150 | dshot300 | dshot600 | dshot1200
  deriving DecidableEq, Repr

/-- Nominal bit rate in bit/s (R7). -/
def Speed.bitsPerSecond : Speed → Nat
  | .dshot150 => 150000
  | .dshot300 => 300000
  | .dshot600 => 600000
  | .dshot1200 => 1200000

/-- The `Error` enumeration in the source's order (30_encoding.md R83). -/
inductive Error where
  | none | responseTimeout | badDecodeFirstNibble | badDecodeSecondNibble | badDecodeThirdNibble
  | badDecodeFourthNibble | badChecksum
  deriving DecidableEq, Repr

/-- The numeric value of each `Error`: the parameter ERR_CODE (R14, R83). -/
structure ErrCodes where
  none : Byte
  responseTimeout : Byte
  badDecodeFirstNibble : Byte
  badDecodeSecondNibble : Byte
  badDecodeThirdNibble : Byte
  badDecodeFourthNibble : Byte
  badChecksum : Byte
  deriving DecidableEq, Repr

/-- The seven codes in the source's order. -/
def ErrCodes.toList (e : ErrCodes) : List Byte :=
  [e.none, e.responseTimeout, e.badDecodeFirstNibble, e.badDecodeSecondNibble, e.badDecodeThirdNibble,
    e.badDecodeFourthNibble, e.badChecksum]

/-- The default ERR_CODE: the list numbered from 0 (R83, D9). -/
def ErrCodes.default : ErrCodes := ⟨0, 1, 2, 3, 4, 5, 6⟩

/-- The telemetry types the source names (45_response.md R165); three debug channels. -/
inductive TelemType where
  | temperature | voltage | current | debug1 | debug2 | debug3 | state
  deriving DecidableEq, Repr

/-- How SCALE_ROUND (41_command_codec.md R110) rounds inside one unit interval (n, n+1): a fraction below num/den
goes to n, one above to n+1, one equal to num/den to n exactly when `down`. A monotonic function to integers that
fixes the integers is one such cut per interval (log 20). -/
structure Cut where
  num : Nat
  den : Nat
  down : Bool
  deriving DecidableEq, Repr

/-- RPM_ROUND (R14): the exact value, or one of the roundings the source leaves open (45_response.md R163; log 21). -/
inductive RpmRounding where
  | exact
  | free (n : Nat)
  deriving DecidableEq, Repr

/-- The configuration: fixed for the life of the block (R6). State carries it and no step writes it (log 4). -/
structure Config where
  /-- SPEED (R7) -/
  speed : Speed
  /-- F_CPU in Hz (R8); no step rule reads it -/
  fCpu : Rat
  /-- PRESCALE, cycles per tick (R8); no step rule reads it -/
  prescale : Nat
  /-- TX_A, TX_B, TX_C in cycles (R9) -/
  txA : Nat
  txB : Nat
  txC : Nat
  /-- TX_TOL in seconds (R9) -/
  txTol : Rat
  /-- INV, EDT_SUPPORT, MSB_FIRST (R10) -/
  inv : Bool
  edtSupport : Bool
  msbFirst : Bool
  /-- TB, TH in ticks (R11) -/
  tb : Nat
  th : Nat
  /-- L_ISR, L_SYNC, L_LOOP in ticks (R12); only the static assertion reads L_LOOP -/
  lIsr : Nat
  lSync : Nat
  lLoop : Nat
  /-- RESPONSE_TIMEOUT in seconds and the overflow budget N_TO (R13) -/
  responseTimeout : Rat
  nTo : Nat
  /-- GCR_DECODE, 32 entries (R14, 44_decoder.md R147) -/
  gcrDecode : List Byte
  /-- ERR_CODE (R14) -/
  errCode : ErrCodes
  /-- TELEM_TAG (R14, 45_response.md R165) -/
  telemTag : List (BitVec 3 × TelemType)
  /-- SCALE_ROUND (R14): the cut of interval n at index n, truncation where the list has none -/
  scaleCuts : List Cut
  /-- RPM_ROUND (R14) -/
  rpmRound : RpmRounding
  deriving DecidableEq, Repr

/-- The nominal bit period T = 1/SPEED in seconds (R7). -/
def Config.bitPeriod (c : Config) : Rat := 1 / (c.speed.bitsPerSecond : Rat)

/-- A duration of `n` cycles differs from its target (seconds) by at most TX_TOL (R9). -/
abbrev Config.withinTol (c : Config) (n : Nat) (target : Rat) : Prop :=
  (n : Rat) / c.fCpu - target ≤ c.txTol ∧ target - (n : Rat) / c.fCpu ≤ c.txTol

/-- Static assertions on the transmit windows (R9, R124). -/
abbrev Config.txOk (c : Config) : Prop :=
  1 ≤ c.txA ∧ 1 ≤ c.txB ∧ 1 ≤ c.txC ∧ 0 < c.fCpu ∧ 1 ≤ c.prescale ∧ 0 ≤ c.txTol ∧
  c.withinTol c.txA (c.bitPeriod / 3) ∧ c.withinTol (c.txA + c.txB) (2 * c.bitPeriod / 3) ∧
  c.withinTol (c.txA + c.txB + c.txC) c.bitPeriod

/-- Static assertions on the receive timing (R11, R13, 70_reset_and_hazards.md R191). -/
abbrev Config.rxOk (c : Config) : Prop :=
  2 ≤ c.tb ∧ c.tb ≤ 256 ∧ c.th = c.tb / 2 ∧ c.th < 200 ∧ c.lLoop < c.th ∧ 0 < c.responseTimeout ∧ 1 ≤ c.nTo

/-- Entry `s` of a GCR table (20_memory.md R52). -/
def gcrEntry (table : List Byte) (s : Nat) : Byte := table.getD s 0xFF#8

/-- What every GCR_DECODE satisfies (44_decoder.md R147 (a), (b), (c)): 32 entries, each a nibble or 0xFF, every
nibble hit by exactly one symbol, and 0b11001 mapped to 0. -/
abbrev Config.gcrOk (c : Config) : Prop :=
  c.gcrDecode.length = 32 ∧
  (∀ s : Fin 32, (gcrEntry c.gcrDecode s).toNat < 16 ∨ gcrEntry c.gcrDecode s = 0xFF#8) ∧
  (∀ n : Fin 16, ∃ s : Fin 32, (gcrEntry c.gcrDecode s).toNat = n) ∧
  (∀ s s' : Fin 32, gcrEntry c.gcrDecode s = gcrEntry c.gcrDecode s' → gcrEntry c.gcrDecode s ≠ 0xFF#8 → s = s') ∧
  gcrEntry c.gcrDecode 0b11001 = 0#8

/-- The seven error codes are distinct (00_scope.md section 4, table). -/
abbrev Config.errOk (c : Config) : Prop := c.errCode.toList.Nodup

/-- Every static assertion: the premise under which a statement speaks of this hardware (R6). -/
abbrev Config.ok (c : Config) : Prop := c.txOk ∧ c.rxOk ∧ c.gcrOk ∧ c.errOk

/-- The default GCR_DECODE of 44_decoder.md R147: PRESUMED by the spec itself (G1), all but entry 0x19 (log 22). -/
def Config.defaultGcr : List Byte :=
  [0xFF, 0xFF, 0xFF, 0xFF, 0xFF, 0xFF, 0xFF, 0xFF] ++
  [0xFF, 0x09, 0x0A, 0x0B, 0xFF, 0x0D, 0x0E, 0x0F] ++
  [0xFF, 0xFF, 0x02, 0x03, 0xFF, 0x05, 0x06, 0x07] ++
  [0xFF, 0x00, 0x08, 0x01, 0xFF, 0x04, 0x0C, 0xFF]

/-- The default TELEM_TAG of 45_response.md R165: PRESUMED by the spec itself (G2; log 22). -/
def Config.defaultTelemTag : List (BitVec 3 × TelemType) :=
  [(1, .temperature), (2, .voltage), (3, .current), (4, .debug1), (5, .debug2), (6, .debug3), (7, .state)]

/-- The example configuration of D3 (TB 8, TH 4, N_TO 2, TX 2, 2, 2). DESIGN CHOICE (log 4): the options INV and
EDT_SUPPORT true, a speed and clock that meet the tolerance exactly, and RPM_ROUND exact (log 21). -/
def Config.example : Config where
  speed := .dshot300
  fCpu := 1800000
  prescale := 1
  txA := 2
  txB := 2
  txC := 2
  txTol := 0
  inv := true
  edtSupport := true
  msbFirst := true
  tb := 8
  th := 4
  lIsr := 0
  lSync := 0
  lLoop := 1
  responseTimeout := mkRat 1 20000
  nTo := 2
  gcrDecode := Config.defaultGcr
  errCode := ErrCodes.default
  telemTag := Config.defaultTelemTag
  scaleCuts := []
  rpmRound := .exact

/-- Free value: the level drawn when no input is given (10_state.md R47; log 8). -/
opaque Config.freeLine : Nat → Level

/-- Free value: TCNT while it is unspecified (10_state.md R35, U7; log 9). -/
opaque Config.freeTcnt : Nat → Byte

/-- Free value: whether a cycle of a `send` is a tick of the running timer, when no input says so (40_pulse_timer.md R93;
log 13). -/
opaque Config.freeTick : Nat → Bool

/-- Free value: an open RPM_ROUND before its bound is imposed (45_response.md R163; log 21). -/
opaque Config.freeRpmRound : Nat → Rat → Rat

end Sys2Proof
end

