-- ==== Sys2Proof/Syntax.lean ====
section
/-! DEFINITION. The instructions: one constructor per row of spec/opcode_table.json (spec/30_encoding.md R86 to R91). -/

namespace Sys2Proof

/-- The real operand `x` of R110: an exact rational (every finite float or double is one), an infinity or a NaN (log 20). -/
inductive RealArg where
  | fin (q : Rat)
  | posInf
  | negInf
  | nan
  deriving DecidableEq, Repr

/-- Operations (format OP), steps (format STEP) and the classes of the data formats CMD16, GCR5, RESP16 and ERR8. -/
inductive Instr where
  -- top level
  | init
  | sendCommand (command : BitVec 16)
  | getResponse
  -- PulseTimer
  | setCounter (value : Byte)
  | setMaxTimeout
  | setShortTimeout
  | start
  | stop
  | clearFlag
  | hasOverflowed
  | enableInterrupt
  | disableInterrupt
  -- command codec
  | fromRaw (c : Int) (t : Bool)
  | fromThrottle (n : Int) (t : Bool)
  | scaleToCommandMax (x : RealArg)
  | fromNormalized (x : RealArg) (t : Bool)
  | crc (c : BitVec 11) (t : Bool)
  | fromSpecial (s : BitVec 6) (t : Bool)
  | getRaw (command : BitVec 16)
  -- encoder
  | send (bytes : List Byte) (bitCount : Nat)
  -- decoder
  | decode (acc : BitVec 24)
  | unshift (v : BitVec 24)
  | split (g : BitVec 24)
  | gcrDecode (s : Symbol)
  | checksum (n3 n2 n1 n0 : Nibble)
  | fromNibbles (n3 n2 n1 : Nibble)
  | fromError (e : Error)
  -- Response queries
  | isError (response : BitVec 16)
  | getError (response : BitVec 16)
  | getExponent (response : BitVec 16)
  | getBase (response : BitVec 16)
  | getPeriodMicros (response : BitVec 16)
  | isStopped (response : BitVec 16)
  | isTelemetry (response : BitVec 16)
  | getTelemetryType (response : BitVec 16)
  | getTelemetryValue (response : BitVec 16)
  | getRPM (response : BitVec 16) (polePairs : Nat)
  -- steps the machine takes by itself (R88)
  | tickMax
  | tickShort
  | txStep
  | rxWait
  | rxOvf
  | rxTimeout
  | rxFirstEdge
  | rxCount
  | rxEdge
  | rxSample
  | rxComplete
  | rxCollide
  | irqEntry
  -- a CMD16 word by the class of its command value (R68, R71)
  | cmd16Special0 (c : BitVec 5) (t : Bool) (crc : Nibble)
  | cmd16Special32 (c : BitVec 4) (t : Bool) (crc : Nibble)
  | cmd16Throttle (c : BitVec 11) (t : Bool) (crc : Nibble)
  -- a GCR5 word (R77), by symbol
  | gcr5_00000 | gcr5_00001 | gcr5_00010 | gcr5_00011
  | gcr5_00100 | gcr5_00101 | gcr5_00110 | gcr5_00111
  | gcr5_01000 | gcr5_01001 | gcr5_01010 | gcr5_01011
  | gcr5_01100 | gcr5_01101 | gcr5_01110 | gcr5_01111
  | gcr5_10000 | gcr5_10001 | gcr5_10010 | gcr5_10011
  | gcr5_10100 | gcr5_10101 | gcr5_10110 | gcr5_10111
  | gcr5_11000 | gcr5_11001 | gcr5_11010 | gcr5_11011
  | gcr5_11100 | gcr5_11101 | gcr5_11110 | gcr5_11111
  -- a RESP16 word by class (R80); `rsv` holds msb[6:4] (R84)
  | resp16Error (low : BitVec 7) (code : Byte)
  | resp16Stopped
  | resp16Telemetry (rsv : BitVec 3) (tag : BitVec 3) (value : Byte)
  | resp16Period (rsv : BitVec 3) (exponent : BitVec 3) (base : BitVec 9)
  -- an ERR8 word (R83)
  | err8None
  | err8ResponseTimeout
  | err8BadDecodeFirstNibble
  | err8BadDecodeSecondNibble
  | err8BadDecodeThirdNibble
  | err8BadDecodeFourthNibble
  | err8BadChecksum
  deriving DecidableEq, Repr

end Sys2Proof
end

