-- ==== Sys2Proof/WellFormed.lean ====
section
/-! DEFINITION. Which operands an instruction may carry (spec/30_encoding.md R90 and the rule of each operation). -/

namespace Sys2Proof

/-- The operands are values the spec gives the operation or the class:
`fromSpecial` takes 0..47 (41_command_codec.md R112), `fromError` an Error other than None (44_decoder.md R151),
`send` at most the bits of its buffer (42_pulsed_output.md R120), `getRPM` a positive integer (R90);
the CMD16 throttle class holds the values 48..2047 (R71); the RESP16 period class is what the earlier rows leave (R80):
bit 8 set, and not the stopped value. Every other operand form is total. -/
def Instr.wellFormed : Instr → Bool
  | .fromSpecial s _ => s.toNat < 48
  | .fromError e => e ≠ .none
  | .send bytes bitCount => bitCount ≤ 8 * bytes.length
  | .getRPM _ polePairs => 1 ≤ polePairs
  | .cmd16Throttle c _ _ => 48 ≤ c.toNat
  | .resp16Period rsv exponent base => base.getLsbD 8 && !(rsv == 0#3 && exponent == 7#3 && base == 0x1FF#9)
  | _ => true

end Sys2Proof
end

