-- ==== Sys2Proof/Decode.lean ====
section
/-! DEFINITION. Call records: the bytes of an instruction, decoder and encoder (spec/30_encoding.md R86 to R91). The first
byte is the identifier of spec/opcode_table.json; the layout of the operands, which the spec gives no bits (R89), and
the four format bytes 0xE0 to 0xE3 are the model's own (DESIGN CHOICE, log 2 and log 3). -/

namespace Sys2Proof

/-- Why a call record is no instruction. -/
inductive DecodeError where
  /-- no byte at all: a step without a call -/
  | empty
  /-- the record ends inside an operand -/
  | truncated
  /-- the first byte is no identifier of spec/opcode_table.json and no format byte -/
  | unknownIdentifier (b : Byte)
  /-- an operand of fewer bits than its bytes has a bit set above them, or is no value of its range -/
  | operandOutOfRange
  deriving DecidableEq, Repr

/-- What a reader of operands answers: the operand and the bytes after it. -/
abbrev Parsed (α : Type) := Except DecodeError (α × List Byte)

/-! ### Operands as bytes -/

/-- One byte. -/
def pByte : List Byte → Parsed Byte
  | [] => .error .truncated
  | b :: r => .ok (b, r)

/-- A number below `limit`, in one byte. -/
def pBelow (limit : Nat) : List Byte → Parsed Nat
  | [] => .error .truncated
  | b :: r => if b.toNat < limit then .ok (b.toNat, r) else .error .operandOutOfRange

/-- One bit, in one byte. -/
def pBit : List Byte → Parsed Bool
  | [] => .error .truncated
  | b :: r => if b.toNat < 2 then .ok (b.toNat == 1, r) else .error .operandOutOfRange

/-- 16 bits, the less significant byte first. -/
def pWord16 : List Byte → Parsed (BitVec 16)
  | lo :: hi :: r => .ok (hi ++ lo, r)
  | _ => .error .truncated

/-- 24 bits, the less significant byte first. -/
def pWord24 : List Byte → Parsed (BitVec 24)
  | b0 :: b1 :: b2 :: r => .ok ((b2 ++ b1 ++ b0 : BitVec 24), r)
  | _ => .error .truncated

/-- An 11-bit command value, in two bytes. -/
def pWord11 (bs : List Byte) : Parsed (BitVec 11) :=
  match pWord16 bs with
  | .error e => .error e
  | .ok (w, r) => if w.toNat < 2048 then .ok (w.setWidth 11, r) else .error .operandOutOfRange

/-- A natural number of any size: seven bits a byte, least significant first, bit 7 set on every byte but the last. -/
def pNat : List Byte → Parsed Nat
  | [] => .error .truncated
  | b :: r =>
    if b.toNat < 128 then .ok (b.toNat, r)
    else match pNat r with
      | .error e => .error e
      | .ok (n, r') => .ok (b.toNat - 128 + 128 * n, r')

/-- A signed integer: a byte 0 and its value, or a byte 1 and -value - 1. -/
def pInt (bs : List Byte) : Parsed Int :=
  match pBit bs with
  | .error e => .error e
  | .ok (neg, r) =>
    match pNat r with
    | .error e => .error e
    | .ok (m, r') => .ok (if neg then Int.negSucc m else Int.ofNat m, r')

/-- A real operand: byte 0 with numerator and denominator less one, byte 1 for +infinity, 2 for -infinity, 3 for NaN. -/
def pReal (bs : List Byte) : Parsed RealArg :=
  match pBelow 4 bs with
  | .error e => .error e
  | .ok (1, r) => .ok (.posInf, r)
  | .ok (2, r) => .ok (.negInf, r)
  | .ok (3, r) => .ok (.nan, r)
  | .ok (_, r) =>
    match pInt r with
    | .error e => .error e
    | .ok (num, r') =>
      match pNat r' with
      | .error e => .error e
      | .ok (d, r'') => .ok (.fin (mkRat num (d + 1)), r'')

/-- `n` bytes. -/
def pBytes : Nat → List Byte → Parsed (List Byte)
  | 0, bs => .ok ([], bs)
  | _ + 1, [] => .error .truncated
  | n + 1, b :: r =>
    match pBytes n r with
    | .error e => .error e
    | .ok (bs, r') => .ok (b :: bs, r')

/-- A byte sequence: its length and then its bytes. -/
def pSeq (bs : List Byte) : Parsed (List Byte) :=
  match pNat bs with
  | .error e => .error e
  | .ok (n, r) => pBytes n r

/-- A nibble, in one byte. -/
def pNibble (bs : List Byte) : Parsed Nibble :=
  match pBelow 16 bs with
  | .error e => .error e
  | .ok (n, r) => .ok (BitVec.ofNat 4 n, r)

/-- A symbol, in one byte: bits above bit 4 must be 0 (44_decoder.md R147). -/
def pSymbol (bs : List Byte) : Parsed Symbol :=
  match pBelow 32 bs with
  | .error e => .error e
  | .ok (n, r) => .ok (BitVec.ofNat 5 n, r)

/-- A special command, 0..47, in one byte (41_command_codec.md R112). -/
def pSpecial (bs : List Byte) : Parsed (BitVec 6) :=
  match pBelow 48 bs with
  | .error e => .error e
  | .ok (n, r) => .ok (BitVec.ofNat 6 n, r)

/-- The Error of number `n` in the source's order (30_encoding.md R83). -/
def errorOfIndex : Nat → Error
  | 0 => .none
  | 1 => .responseTimeout
  | 2 => .badDecodeFirstNibble
  | 3 => .badDecodeSecondNibble
  | 4 => .badDecodeThirdNibble
  | 5 => .badDecodeFourthNibble
  | _ => .badChecksum

/-- The number of an Error in the source's order (30_encoding.md R83). -/
def errorIndex : Error → Nat
  | .none => 0
  | .responseTimeout => 1
  | .badDecodeFirstNibble => 2
  | .badDecodeSecondNibble => 3
  | .badDecodeThirdNibble => 4
  | .badDecodeFourthNibble => 5
  | .badChecksum => 6

/-- An Error other than None (44_decoder.md R151): its number less one, in one byte. -/
def pRaised (bs : List Byte) : Parsed Error :=
  match pBelow 6 bs with
  | .error e => .error e
  | .ok (n, r) => .ok (errorOfIndex (n + 1), r)

/-- A positive integer (30_encoding.md R90): its value less one. -/
def pPos (bs : List Byte) : Parsed Nat :=
  match pNat bs with
  | .error e => .error e
  | .ok (n, r) => .ok (n + 1, r)

/-- An instruction of one operand. -/
def with1 {α : Type} (p : List Byte → Parsed α) (k : α → Instr) (bs : List Byte) : Parsed Instr :=
  match p bs with
  | .error e => .error e
  | .ok (a, r) => .ok (k a, r)

/-- An instruction of two operands. -/
def with2 {α β : Type} (p : List Byte → Parsed α) (q : List Byte → Parsed β) (k : α → β → Instr) (bs : List Byte) :
    Parsed Instr :=
  match p bs with
  | .error e => .error e
  | .ok (a, r) => with1 q (k a) r

/-! ### The classes of the data formats -/

/-- The CMD16 row of a word, the rows tried in the table's order (30_encoding.md R68, R71). -/
def cmd16Row (w : BitVec 16) : Instr :=
  if w &&& 0xFC00#16 = 0#16 then .cmd16Special0 (w.extractLsb' 5 5) (w.getLsbD 4) (w.extractLsb' 0 4)
  else if w &&& 0xFE00#16 = 0x0400#16 then .cmd16Special32 (w.extractLsb' 5 4) (w.getLsbD 4) (w.extractLsb' 0 4)
  else .cmd16Throttle (w.extractLsb' 5 11) (w.getLsbD 4) (w.extractLsb' 0 4)

/-- The RESP16 row of a word, the rows tried in the order of 30_encoding.md R80. The telemetry row is tried for every
configuration; its meaning gives the class that holds under EDT_SUPPORT (log 3). -/
def resp16Row (w : BitVec 16) : Instr :=
  if w.getLsbD 15 then .resp16Error (w.extractLsb' 8 7) (w.extractLsb' 0 8)
  else if w = 0x0FFF#16 then .resp16Stopped
  else if w.getLsbD 8 = false then .resp16Telemetry (w.extractLsb' 12 3) (w.extractLsb' 9 3) (w.extractLsb' 0 8)
  else .resp16Period (w.extractLsb' 12 3) (w.extractLsb' 9 3) (w.extractLsb' 0 9)

/-- The 32 GCR5 rows in the order of their symbols (30_encoding.md R77). -/
def gcr5Rows : List Instr :=
  [.gcr5_00000, .gcr5_00001, .gcr5_00010, .gcr5_00011, .gcr5_00100, .gcr5_00101, .gcr5_00110, .gcr5_00111,
    .gcr5_01000, .gcr5_01001, .gcr5_01010, .gcr5_01011, .gcr5_01100, .gcr5_01101, .gcr5_01110, .gcr5_01111,
    .gcr5_10000, .gcr5_10001, .gcr5_10010, .gcr5_10011, .gcr5_10100, .gcr5_10101, .gcr5_10110, .gcr5_10111,
    .gcr5_11000, .gcr5_11001, .gcr5_11010, .gcr5_11011, .gcr5_11100, .gcr5_11101, .gcr5_11110, .gcr5_11111]

/-- The GCR5 row of a symbol. -/
def gcr5Row (s : Symbol) : Instr := gcr5Rows.getD s.toNat .gcr5_00000

/-- The ERR8 row of the Error of number `n` (30_encoding.md R83). -/
def err8Row : Error → Instr
  | .none => .err8None
  | .responseTimeout => .err8ResponseTimeout
  | .badDecodeFirstNibble => .err8BadDecodeFirstNibble
  | .badDecodeSecondNibble => .err8BadDecodeSecondNibble
  | .badDecodeThirdNibble => .err8BadDecodeThirdNibble
  | .badDecodeFourthNibble => .err8BadDecodeFourthNibble
  | .badChecksum => .err8BadChecksum

/-- The word of a CMD16 class: `000000ccccctkkkk`. -/
def cmd16Special0Word (c : BitVec 5) (t : Bool) (crc : Nibble) : BitVec 16 :=
  (0#6 ++ c ++ BitVec.ofBool t ++ crc : BitVec (6 + 5 + 1 + 4))

/-- The word of a CMD16 class: `0000010cccctkkkk`. -/
def cmd16Special32Word (c : BitVec 4) (t : Bool) (crc : Nibble) : BitVec 16 :=
  (0b0000010#7 ++ c ++ BitVec.ofBool t ++ crc : BitVec (7 + 4 + 1 + 4))

/-- The word of a CMD16 frame: `ccccccccccctkkkk` (30_encoding.md R68). -/
def cmd16Word (c : BitVec 11) (t : Bool) (crc : Nibble) : BitVec 16 :=
  (c ++ BitVec.ofBool t ++ crc : BitVec (11 + 1 + 4))

/-- The word of a RESP16 class: `1---------------`, code in bits 7:0. -/
def resp16ErrorWord (low : BitVec 7) (code : Byte) : BitVec 16 :=
  (1#1 ++ low ++ code : BitVec (1 + 7 + 8))

/-- The word of a RESP16 class: `0---ggg0vvvvvvvv`. -/
def resp16TelemetryWord (rsv tag : BitVec 3) (value : Byte) : BitVec 16 :=
  (0#1 ++ rsv ++ tag ++ 0#1 ++ value : BitVec (1 + 3 + 3 + 1 + 8))

/-- The word of a RESP16 class: `0---eeebbbbbbbbb`. -/
def resp16PeriodWord (rsv exponent : BitVec 3) (base : BitVec 9) : BitVec 16 :=
  (0#1 ++ rsv ++ exponent ++ base : BitVec (1 + 3 + 3 + 9))

/-! ### The decoder -/

/-- `send(bytes, bitCount)` with bitCount not above the buffer (42_pulsed_output.md R120). -/
def decodeSend (bs : List Byte) : Parsed Instr :=
  match pSeq bs with
  | .error e => .error e
  | .ok (buffer, r) =>
    match pNat r with
    | .error e => .error e
    | .ok (n, r') => if n ≤ 8 * buffer.length then .ok (.send buffer n, r') else .error .operandOutOfRange

/-- `Response.fromNibbles(n3, n2, n1)`. -/
def decodeNibbles (bs : List Byte) : Parsed Instr :=
  match pNibble bs with
  | .error e => .error e
  | .ok (n3, r) => with2 pNibble pNibble (.fromNibbles n3) r

/-- `checksum(n3, n2, n1, n0)`. -/
def decodeChecksum (bs : List Byte) : Parsed Instr :=
  match pNibble bs with
  | .error e => .error e
  | .ok (n3, r) =>
    match pNibble r with
    | .error e => .error e
    | .ok (n2, r') => with2 pNibble pNibble (.checksum n3 n2) r'

/-- A call without operands. -/
def with0 (i : Instr) (bs : List Byte) : Parsed Instr := .ok (i, bs)

/-- The rows of the decoder: an identifier of spec/opcode_table.json (or a format byte) and the reader of its operands. -/
def opRows : List (Nat × (List Byte → Parsed Instr)) :=
  [(0x01, with0 .init),
    (0x02, with1 pWord16 .sendCommand),
    (0x03, with0 .getResponse)] ++
  [(0x10, with1 pByte .setCounter),
    (0x11, with0 .setMaxTimeout),
    (0x12, with0 .setShortTimeout),
    (0x13, with0 .start),
    (0x14, with0 .stop),
    (0x15, with0 .clearFlag),
    (0x16, with0 .hasOverflowed),
    (0x17, with0 .enableInterrupt),
    (0x18, with0 .disableInterrupt)] ++
  [(0x20, with2 pInt pBit .fromRaw),
    (0x21, with2 pInt pBit .fromThrottle),
    (0x22, with1 pReal .scaleToCommandMax),
    (0x23, with2 pReal pBit .fromNormalized),
    (0x24, with2 pWord11 pBit .crc),
    (0x25, with2 pSpecial pBit .fromSpecial),
    (0x26, with1 pWord16 .getRaw)] ++
  [(0x30, decodeSend),
    (0x40, with1 pWord24 .decode),
    (0x41, with1 pWord24 .unshift),
    (0x42, with1 pWord24 .split),
    (0x43, with1 pSymbol .gcrDecode),
    (0x44, decodeChecksum),
    (0x45, decodeNibbles),
    (0x46, with1 pRaised .fromError)] ++
  [(0x50, with1 pWord16 .isError),
    (0x51, with1 pWord16 .getError),
    (0x52, with1 pWord16 .getExponent),
    (0x53, with1 pWord16 .getBase),
    (0x54, with1 pWord16 .getPeriodMicros),
    (0x55, with1 pWord16 .isStopped),
    (0x56, with1 pWord16 .isTelemetry),
    (0x57, with1 pWord16 .getTelemetryType),
    (0x58, with1 pWord16 .getTelemetryValue),
    (0x59, with2 pWord16 pPos .getRPM)] ++
  [(0x80, with0 .tickMax),
    (0x81, with0 .tickShort),
    (0x82, with0 .txStep),
    (0x83, with0 .rxWait),
    (0x84, with0 .rxOvf),
    (0x85, with0 .rxTimeout),
    (0x86, with0 .rxFirstEdge),
    (0x87, with0 .rxCount),
    (0x88, with0 .rxEdge),
    (0x89, with0 .rxSample),
    (0x8A, with0 .rxComplete),
    (0x8B, with0 .rxCollide),
    (0x8C, with0 .irqEntry)] ++
  [(0xE0, with1 pWord16 cmd16Row),
    (0xE1, with1 pSymbol gcr5Row),
    (0xE2, with1 pWord16 resp16Row),
    (0xE3, with1 (pBelow 7) (fun n => err8Row (errorOfIndex n)))]

/-- The instruction with identifier `op`, its operands read from `bs` (30_encoding.md R89). -/
def decodeOp (op : Byte) (bs : List Byte) : Parsed Instr :=
  match opRows.lookup op.toNat with
  | some reader => reader bs
  | none => .error (.unknownIdentifier op)

/-- The decoder: total on any bytes; it answers the instruction and the bytes after it, or rejects by name. -/
def decode : List Byte → Parsed Instr
  | [] => .error .empty
  | op :: bs => decodeOp op bs

/-! ### The encoder -/

/-- The bytes of a natural number; `fuel` bounds their number. -/
def natBytes : Nat → Nat → List Byte
  | 0, n => [BitVec.ofNat 8 n]
  | fuel + 1, n =>
    if n < 128 then [BitVec.ofNat 8 n] else BitVec.ofNat 8 (128 + n % 128) :: natBytes fuel (n / 128)

def eNat (n : Nat) : List Byte := natBytes n n

def eBit (b : Bool) : List Byte := [if b then 1#8 else 0#8]

def eInt : Int → List Byte
  | .ofNat m => 0#8 :: eNat m
  | .negSucc m => 1#8 :: eNat m

def eReal : RealArg → List Byte
  | .fin q => 0#8 :: (eInt q.num ++ eNat (q.den - 1))
  | .posInf => [1#8]
  | .negInf => [2#8]
  | .nan => [3#8]

def eWord16 (w : BitVec 16) : List Byte := [w.extractLsb' 0 8, w.extractLsb' 8 8]

def eWord24 (w : BitVec 24) : List Byte := [w.extractLsb' 0 8, w.extractLsb' 8 8, w.extractLsb' 16 8]

def eSeq (bs : List Byte) : List Byte := eNat bs.length ++ bs

def eNibble (n : Nibble) : List Byte := [n.setWidth 8]

/-- The first byte of an instruction's record: its identifier (30_encoding.md R89), or its format's byte. -/
def Instr.opByte : Instr → Byte
  | .init => 0x01#8
  | .sendCommand _ => 0x02#8
  | .getResponse => 0x03#8
  | .setCounter _ => 0x10#8
  | .setMaxTimeout => 0x11#8
  | .setShortTimeout => 0x12#8
  | .start => 0x13#8
  | .stop => 0x14#8
  | .clearFlag => 0x15#8
  | .hasOverflowed => 0x16#8
  | .enableInterrupt => 0x17#8
  | .disableInterrupt => 0x18#8
  | .fromRaw _ _ => 0x20#8
  | .fromThrottle _ _ => 0x21#8
  | .scaleToCommandMax _ => 0x22#8
  | .fromNormalized _ _ => 0x23#8
  | .crc _ _ => 0x24#8
  | .fromSpecial _ _ => 0x25#8
  | .getRaw _ => 0x26#8
  | .send _ _ => 0x30#8
  | .decode _ => 0x40#8
  | .unshift _ => 0x41#8
  | .split _ => 0x42#8
  | .gcrDecode _ => 0x43#8
  | .checksum _ _ _ _ => 0x44#8
  | .fromNibbles _ _ _ => 0x45#8
  | .fromError _ => 0x46#8
  | .isError _ => 0x50#8
  | .getError _ => 0x51#8
  | .getExponent _ => 0x52#8
  | .getBase _ => 0x53#8
  | .getPeriodMicros _ => 0x54#8
  | .isStopped _ => 0x55#8
  | .isTelemetry _ => 0x56#8
  | .getTelemetryType _ => 0x57#8
  | .getTelemetryValue _ => 0x58#8
  | .getRPM _ _ => 0x59#8
  | .tickMax => 0x80#8
  | .tickShort => 0x81#8
  | .txStep => 0x82#8
  | .rxWait => 0x83#8
  | .rxOvf => 0x84#8
  | .rxTimeout => 0x85#8
  | .rxFirstEdge => 0x86#8
  | .rxCount => 0x87#8
  | .rxEdge => 0x88#8
  | .rxSample => 0x89#8
  | .rxComplete => 0x8A#8
  | .rxCollide => 0x8B#8
  | .irqEntry => 0x8C#8
  | .cmd16Special0 _ _ _ | .cmd16Special32 _ _ _ | .cmd16Throttle _ _ _ => 0xE0#8
  | .gcr5_00000 | .gcr5_00001 | .gcr5_00010 | .gcr5_00011 | .gcr5_00100 | .gcr5_00101 | .gcr5_00110 | .gcr5_00111
  | .gcr5_01000 | .gcr5_01001 | .gcr5_01010 | .gcr5_01011 | .gcr5_01100 | .gcr5_01101 | .gcr5_01110 | .gcr5_01111
  | .gcr5_10000 | .gcr5_10001 | .gcr5_10010 | .gcr5_10011 | .gcr5_10100 | .gcr5_10101 | .gcr5_10110 | .gcr5_10111
  | .gcr5_11000 | .gcr5_11001 | .gcr5_11010 | .gcr5_11011 | .gcr5_11100 | .gcr5_11101 | .gcr5_11110 | .gcr5_11111 => 0xE1#8
  | .resp16Error _ _ | .resp16Stopped | .resp16Telemetry _ _ _ | .resp16Period _ _ _ => 0xE2#8
  | .err8None | .err8ResponseTimeout | .err8BadDecodeFirstNibble | .err8BadDecodeSecondNibble
  | .err8BadDecodeThirdNibble | .err8BadDecodeFourthNibble | .err8BadChecksum => 0xE3#8

/-- The operand bytes of an instruction's record. -/
def Instr.operandBytes : Instr → List Byte
  | .init | .getResponse | .setMaxTimeout | .setShortTimeout | .start | .stop | .clearFlag | .hasOverflowed | .enableInterrupt | .disableInterrupt
  | .tickMax | .tickShort | .txStep | .rxWait | .rxOvf | .rxTimeout | .rxFirstEdge | .rxCount | .rxEdge | .rxSample | .rxComplete | .rxCollide | .irqEntry => []
  | .sendCommand w => eWord16 w
  | .setCounter v => [v]
  | .fromRaw c t => eInt c ++ eBit t
  | .fromThrottle n t => eInt n ++ eBit t
  | .scaleToCommandMax x => eReal x
  | .fromNormalized x t => eReal x ++ eBit t
  | .crc c t => eWord16 (c.setWidth 16) ++ eBit t
  | .fromSpecial s t => s.setWidth 8 :: eBit t
  | .getRaw w => eWord16 w
  | .send bytes n => eSeq bytes ++ eNat n
  | .decode v | .unshift v | .split v => eWord24 v
  | .gcrDecode s => [s.setWidth 8]
  | .checksum n3 n2 n1 n0 => eNibble n3 ++ eNibble n2 ++ eNibble n1 ++ eNibble n0
  | .fromNibbles n3 n2 n1 => eNibble n3 ++ eNibble n2 ++ eNibble n1
  | .fromError e => [BitVec.ofNat 8 (errorIndex e - 1)]
  | .isError w | .getError w | .getExponent w | .getBase w | .getPeriodMicros w | .isStopped w | .isTelemetry w
  | .getTelemetryType w | .getTelemetryValue w => eWord16 w
  | .getRPM w p => eWord16 w ++ eNat (p - 1)
  | .cmd16Special0 c t k => eWord16 (cmd16Special0Word c t k)
  | .cmd16Special32 c t k => eWord16 (cmd16Special32Word c t k)
  | .cmd16Throttle c t k => eWord16 (cmd16Word c t k)
  | .gcr5_00000 => [0b00000#8]
  | .gcr5_00001 => [0b00001#8]
  | .gcr5_00010 => [0b00010#8]
  | .gcr5_00011 => [0b00011#8]
  | .gcr5_00100 => [0b00100#8]
  | .gcr5_00101 => [0b00101#8]
  | .gcr5_00110 => [0b00110#8]
  | .gcr5_00111 => [0b00111#8]
  | .gcr5_01000 => [0b01000#8]
  | .gcr5_01001 => [0b01001#8]
  | .gcr5_01010 => [0b01010#8]
  | .gcr5_01011 => [0b01011#8]
  | .gcr5_01100 => [0b01100#8]
  | .gcr5_01101 => [0b01101#8]
  | .gcr5_01110 => [0b01110#8]
  | .gcr5_01111 => [0b01111#8]
  | .gcr5_10000 => [0b10000#8]
  | .gcr5_10001 => [0b10001#8]
  | .gcr5_10010 => [0b10010#8]
  | .gcr5_10011 => [0b10011#8]
  | .gcr5_10100 => [0b10100#8]
  | .gcr5_10101 => [0b10101#8]
  | .gcr5_10110 => [0b10110#8]
  | .gcr5_10111 => [0b10111#8]
  | .gcr5_11000 => [0b11000#8]
  | .gcr5_11001 => [0b11001#8]
  | .gcr5_11010 => [0b11010#8]
  | .gcr5_11011 => [0b11011#8]
  | .gcr5_11100 => [0b11100#8]
  | .gcr5_11101 => [0b11101#8]
  | .gcr5_11110 => [0b11110#8]
  | .gcr5_11111 => [0b11111#8]
  | .resp16Error low code => eWord16 (resp16ErrorWord low code)
  | .resp16Stopped => eWord16 0x0FFF#16
  | .resp16Telemetry rsv tag v => eWord16 (resp16TelemetryWord rsv tag v)
  | .resp16Period rsv e b => eWord16 (resp16PeriodWord rsv e b)
  | .err8None => [0#8]
  | .err8ResponseTimeout => [1#8]
  | .err8BadDecodeFirstNibble => [2#8]
  | .err8BadDecodeSecondNibble => [3#8]
  | .err8BadDecodeThirdNibble => [4#8]
  | .err8BadDecodeFourthNibble => [5#8]
  | .err8BadChecksum => [6#8]

/-- The encoder: the record of an instruction. -/
def encode (i : Instr) : List Byte := i.opByte :: i.operandBytes

/-- Steps the machine takes by itself, which no agent calls by name (30_encoding.md R88). -/
def Instr.isStep : Instr → Bool
  | .tickMax | .tickShort | .txStep | .rxWait | .rxOvf | .rxTimeout | .rxFirstEdge | .rxCount | .rxEdge | .rxSample
  | .rxComplete | .rxCollide | .irqEntry => true
  | _ => false

/-! ### A word of the opcode table -/

/-- The 8-bit identifiers of the OP and STEP rows. -/
def isIdentifier (b : Nat) : Bool :=
  (0x01 ≤ b && b ≤ 0x03) || (0x10 ≤ b && b ≤ 0x18) || (0x20 ≤ b && b ≤ 0x26) || b == 0x30 ||
  (0x40 ≤ b && b ≤ 0x46) || (0x50 ≤ b && b ≤ 0x59) || (0x80 ≤ b && b ≤ 0x8C)

/-- The record of a word of the table. Formats of one width overlap there, and only the place a word stands in tells
them apart; where several rows match, the row with more fixed bits is taken, then the earlier one (DESIGN CHOICE, log 3).
An identifier stands as itself, its operand bytes after it. -/
def tableRecord (nbits w : Nat) : List Byte :=
  if nbits < 8 then [0xE1#8, BitVec.ofNat 8 (w % 32)]
  else if nbits = 8 then
    if isIdentifier (w % 256) then [BitVec.ofNat 8 w]
    else if w % 256 < 7 then [0xE3#8, BitVec.ofNat 8 w]
    else if w % 256 < 32 then [0xE1#8, BitVec.ofNat 8 w]
    else [BitVec.ofNat 8 w]
  else if nbits = 16 then
    (if w % 65536 = 0x0FFF then 0xE2#8 else if w % 65536 < 0x0600 then 0xE0#8 else 0xE2#8) ::
      [BitVec.ofNat 8 w, BitVec.ofNat 8 (w / 256)]
  else (List.range ((nbits + 7) / 8)).map fun k => BitVec.ofNat 8 (w / 256 ^ k)

/-- The record with the zero bytes of its operands: the longest record whose operands are zeros is shorter. -/
def tableBytes (nbits w : Nat) : List Byte := tableRecord nbits w ++ List.replicate 8 0#8

/-- The instruction the decoder reads from a word of the opcode table (fixed name of the host). -/
def decodeTableWord (nbits w : Nat) : Option Instr :=
  match decode (tableBytes nbits w) with
  | .ok (i, _) => some i
  | .error _ => none

end Sys2Proof
end

