-- ==== Sys2Proof/Machine/State.lean ====
section
/-! DEFINITION. The state of the block (spec/10_state.md R21 to R50), the values calls return, and the reasons a step stops. -/

namespace Sys2Proof.Machine

open Sys2Proof

/-- PHASE (R30). -/
inductive Phase where
  | idle | sending | waitingForFirstEdge | sampling | done
  deriving DecidableEq, Repr

/-- TXPH, the window within the transmitted bit (R31). -/
inductive TxPh where
  | winA | winB | winC
  deriving DecidableEq, Repr

/-- JT, the jump-target register (R33). -/
inductive Jt where
  | none | readBit
  deriving DecidableEq, Repr

/-- MODE of the timer (R39). -/
inductive TimerMode where
  | max | short
  deriving DecidableEq, Repr

/-- DIR of the pin (R45). -/
inductive Dir where
  | output | input
  deriving DecidableEq, Repr

/-- What TXBUF and bitCount stand for in the running `send`: the 16 bits of CMD (R24, 46_top_level.md R170), or the
buffer and count of a direct call (20_memory.md R53). -/
inductive TxSrc where
  | frame
  | buffer (bytes : List Byte) (bitCount : Nat)
  deriving DecidableEq, Repr

/-- The class of a command value (30_encoding.md R71). -/
inductive CommandClass where
  | special (s : BitVec 11)
  | throttle (n : Nat)
  deriving DecidableEq, Repr

/-- The class of a Response with its content (30_encoding.md R80). -/
inductive RespClass where
  | error (code : Byte)
  | stopped
  | telemetry (tag : BitVec 3) (value : Byte)
  | period (exponent : BitVec 3) (base : BitVec 9)
  deriving DecidableEq, Repr

/-- What a call returns (30_encoding.md R86). `unit` is also the answer of a call still in progress (log 19). -/
inductive Value where
  | unit
  | bit (b : Bool)
  | u3 (v : BitVec 3)
  | u4 (v : Nibble)
  | u8 (v : Byte)
  | u9 (v : BitVec 9)
  | u11 (v : BitVec 11)
  | u16 (v : BitVec 16)
  | u24 (v : BitVec 24)
  | scaled (n : Nat)
  | symbols (s3 s2 s1 s0 : Symbol)
  | command (frame : BitVec 16)
  | response (r : BitVec 16)
  | error (e : Error)
  /-- the exact rational of 45_response.md R163, and RPM_ROUND of it -/
  | rpm (exact machine : Rat)
  /-- the tag, and its label under TELEM_TAG (45_response.md R165) -/
  | telemType (tag : BitVec 3) (label : Option TelemType)
  /-- a CMD16 word read: its class, its telemetry bit, its crc field, and whether the frame is well formed -/
  | commandWord (cls : CommandClass) (t : Bool) (crc : Nibble) (wellFormed : Bool)
  /-- a RESP16 word read -/
  | respClass (cls : RespClass)
  /-- an ERR8 word read: the Error with that code under ERR_CODE, if any -/
  | errName (e : Option Error)
  deriving DecidableEq, Repr

/-- Why the machine stops with a fault. -/
inductive Fault where
  /-- A step from a state with TIMING_FAULT = 1, which rx.collide sets (43_receiver.md R137). Safe: the hardware goes on
  with a wrong bit, of which nothing is claimed (log 17). -/
  | timing
  /-- rx.sample when IE or GIE is 0: the sampler is never run and the receive is stuck (93_implementation_defined.md U2).
  Safe (log 18). -/
  | samplerMasked
  deriving DecidableEq, Repr

/-- Why the machine gives a call or a step no meaning. Every one is safe: nothing is claimed of what follows. -/
inductive Refusal where
  /-- the dispatcher: an instruction without a meaning -/
  | notModelled (mnemonic : String)
  /-- step: the host's call record is no instruction (log 1) -/
  | badCall (e : DecodeError)
  /-- step: the host called a step that no agent calls by name (30_encoding.md R88) -/
  | stepIsNotACall
  /-- a top-level, timer or send call outside Idle and Done, or during a send (U11, 10_state.md R49) -/
  | busy
  /-- sendCommand, getResponse with GIE = 0 or OTHER_IRQ = 1; send with OTHER_IRQ = 1 (U2, U3, D26) -/
  | interruptsNotSetUp
  /-- sendCommand, getResponse with MSB_FIRST = false (U10, 30_encoding.md R70) -/
  | msbFirstRequired
  /-- sendCommand or getResponse called by the host before `init()` (70_reset_and_hazards.md R190; log 32) -/
  | notInitialised
  /-- an interrupt that becomes pending while a `send` is in progress, its call step included (U23, 42_pulsed_output.md R117;
  log 16) -/
  | interruptDuringSend
  /-- Command.fromRaw outside 0..2047 (U12, 41_command_codec.md R108) -/
  | rawOutOfRange
  /-- Command.fromSpecial outside 0..47, which no well-formed instruction is (41_command_codec.md R112) -/
  | notSpecial
  /-- scaleToCommandMax, Command.fromNormalized of a NaN (U12, 41_command_codec.md R110) -/
  | nanOperand
  /-- send with bitCount above the buffer (U12, 42_pulsed_output.md R120) -/
  | bitCountTooLarge
  /-- Response.fromError of None, which no well-formed instruction is (44_decoder.md R151) -/
  | noneIsNotAnError
  /-- getError of an error Response whose lsb is no code (U16, 45_response.md R158) -/
  | unknownErrorCode
  /-- getRPM with period 0 or polePairs 0 (U12, 45_response.md R163) -/
  | zeroDivisor
  /-- a tick with TCNT > TOP in short mode, beside a call or a cycle of `send` too (U6, 40_pulse_timer.md R95) -/
  | counterAboveTop
  /-- irq.entry, rx.sample with JT = None (U21, 60_exceptions.md R180) -/
  | irqWithoutTarget
  /-- a step row executed where its guard does not hold: the pair of state and event cannot occur (43_receiver.md R126) -/
  | ruleNotEnabled
  /-- step: no step rule applies, in a state no run reaches (NEXT or BUDGET outside its range; log 25) -/
  | noRule
  deriving DecidableEq, Repr

/-- The state: R21's registers under the spec's names, then the model's own fields. Plain data. -/
structure State where
  /-- the configuration (00_scope.md R6); written by no step (log 4) -/
  cfg : Config
  /-- CMD (R24) -/
  cmd : BitVec 16
  /-- ACC (R25) -/
  acc : BitVec 24
  /-- RESP = {msb, lsb} (R26) -/
  resp : BitVec 16
  /-- C (R27) -/
  carry : Bool
  /-- DONE (R28) -/
  done : Bool
  /-- PHASE (R30) -/
  phase : Phase
  /-- TXI (R31) -/
  txi : Nat
  /-- TXPH (R31) -/
  txph : TxPh
  /-- TXCNT (R31) -/
  txcnt : Nat
  /-- TXBUF and bitCount of the running send (20_memory.md R53) -/
  txSrc : TxSrc
  /-- the send has not finished (42_pulsed_output.md R121; log 12) -/
  txBusy : Bool
  /-- BITIDX (R32) -/
  bitidx : Nat
  /-- JT (R33) -/
  jt : Jt
  /-- PREV (R34) -/
  prev : Level
  /-- NEXT (R35) -/
  next : Nat
  /-- BUDGET (R36) -/
  budget : Nat
  /-- TCNT (R37) -/
  tcnt : Byte
  /-- TOP (R38) -/
  top : Byte
  /-- MODE (R39) -/
  mode : TimerMode
  /-- RUN (R40) -/
  run : Bool
  /-- FLAG (R41) -/
  flag : Bool
  /-- IE (R42) -/
  ie : Bool
  /-- GIE (R43), the environment's -/
  gie : Bool
  /-- OTHER_IRQ (R44), the environment's -/
  otherIrq : Bool
  /-- DIR (R45) -/
  dir : Dir
  /-- OUT (R46) -/
  out : Level
  /-- TIMING_FAULT (R48) -/
  timingFault : Bool
  /-- the levels the environment will put on the line, one per receiver tick (R47; log 8) -/
  lineIn : List Level
  /-- how many levels were drawn: the argument of the free level (log 8) -/
  lineCount : Nat
  /-- whether each coming cycle of a `send` with RUN = 1 is a tick of the timer (40_pulse_timer.md R93; log 13) -/
  ticksIn : List Bool
  /-- how many free timer values were drawn (log 9, log 13) -/
  freeCount : Nat
  /-- the host's calls to come, a record a step; an empty record is a step without a call (log 1) -/
  calls : List (List Byte)
  /-- how many steps until the watchdog resets the block, then until it does so again, and so on
  (70_reset_and_hazards.md R189; log 7) -/
  resets : List Nat
  /-- `init()` was called since reset (70_reset_and_hazards.md R190; log 32) -/
  ready : Bool
  /-- what the last call returned (log 19) -/
  ret : Value
  deriving DecidableEq, Repr

/-- The machine right after reset (R50, 70_reset_and_hazards.md R189). PHASE, DONE, RUN, FLAG, IE, DIR and TIMING_FAULT
have the spec's values; every other register a DESIGN CHOICE (log 5, log 6), the configuration that of log 4. -/
def State.reset : State where
  cfg := Config.example
  cmd := 0
  acc := 0
  resp := 0
  carry := false
  done := false
  phase := .idle
  txi := 0
  txph := .winA
  txcnt := 0
  txSrc := .buffer [] 0
  txBusy := false
  bitidx := 0
  jt := .none
  prev := false
  next := 1
  budget := 0
  tcnt := 0
  top := 0
  mode := .max
  run := false
  flag := false
  ie := false
  gie := true
  otherIrq := false
  dir := .input
  out := false
  timingFault := false
  lineIn := []
  lineCount := 0
  ticksIn := []
  freeCount := 0
  calls := []
  resets := []
  ready := false
  ret := .unit

end Sys2Proof.Machine
end

