-- ==== Sys2Proof/Machine/Operands.lean ====
section
/-! DEFINITION. The operand forms: fields of the bit-exact formats, the transmit buffer, the line, and the pure functions of
the codec, the decoder and the Response queries (spec/30_encoding.md, 41, 44, 45). -/

namespace Sys2Proof.Machine

open Sys2Proof

/-! ### The command frame (30_encoding.md R68, R69; 41_command_codec.md) -/

/-- Field `c` of CMD16, bits 15:5. -/
def commandValue (f : BitVec 16) : BitVec 11 := f.extractLsb' 5 11

/-- Field `t` of CMD16, bit 4. -/
def commandT (f : BitVec 16) : Bool := f.getLsbD 4

/-- Field `crc` of CMD16, bits 3:0. -/
def commandCrc (f : BitVec 16) : Nibble := f.extractLsb' 0 4

/-- `commandHigh`: byte 0 of the frame (R69). -/
def commandHigh (f : BitVec 16) : Byte := hiByte f

/-- `commandLow`: bits 7:5 of byte 1 (R69). -/
def commandLow (f : BitVec 16) : BitVec 3 := (loByte f).extractLsb' 5 3

/-- `crc(c, t)` (R107): x = {c, t}, the XOR of x, x >> 4 and x >> 8 masked to 4 bits, inverted under INV. -/
def crc4 (inv : Bool) (c : BitVec 11) (t : Bool) : Nibble :=
  let x : BitVec 12 := c ++ BitVec.ofBool t
  let k : Nibble := (x ^^^ (x >>> 4) ^^^ (x >>> 8)).setWidth 4
  if inv then k ^^^ 0xF#4 else k

/-- The frame of a command value and telemetry bit: `{c, t, crc(c, t)}` (R108). -/
def packCommand (inv : Bool) (c : BitVec 11) (t : Bool) : BitVec 16 := cmd16Word c t (crc4 inv c t)

/-- `getRaw` (R113): `(commandHigh << 3) | commandLow`. -/
def rawOf (f : BitVec 16) : BitVec 11 := ((commandHigh f).setWidth 11 <<< 3) ||| (commandLow f).setWidth 11

/-- Max = 2047 - 48 (00_scope.md R16). -/
def commandMax : Nat := 1999

/-- The clamp of `Command.fromThrottle` (R109), on the mathematical integer. -/
def clampThrottle (n : Int) : Int := if n < 0 then 0 else if n > 1999 then 1999 else n

/-- SCALE_ROUND of the fraction p/d under the configuration's cuts (R110; log 20). -/
def scaleRound (cuts : List Cut) (p d : Nat) : Nat :=
  if p % d = 0 then p / d
  else match cuts[p / d]? with
    | none => p / d
    | some cut =>
      if p % d * cut.den < cut.num * d ∨ (cut.down = true ∧ p % d * cut.den = cut.num * d) then p / d else p / d + 1

/-- `scaleToCommandMax` (R110), none for a NaN. -/
def scaleReal (cuts : List Cut) : RealArg → Option Nat
  | .nan => none
  | .posInf => some commandMax
  | .negInf => some 0
  | .fin q =>
    if q.num ≤ 0 then some 0
    else if (q.den : Int) ≤ q.num then some commandMax
    else some (scaleRound cuts (q.num.toNat * commandMax) q.den)

/-- The class of a command value (R71). -/
def commandClass (c : BitVec 11) : CommandClass :=
  if c.toNat < 48 then .special c else .throttle (c.toNat - 48)

/-! ### The transmit buffer (20_memory.md R53, 42_pulsed_output.md R118) -/

/-- TXBUF: the two bytes of CMD while a frame is sent, the buffer of a direct send otherwise. -/
def State.txBuf (s : State) : List Byte :=
  match s.txSrc with
  | .frame => [hiByte s.cmd, loByte s.cmd]
  | .buffer bytes _ => bytes

/-- bitCount of the running send. -/
def State.txBits (s : State) : Nat :=
  match s.txSrc with
  | .frame => 16
  | .buffer _ n => n

/-- `bit(i)` of a buffer (R118). -/
def bitOf (msbFirst : Bool) (buf : List Byte) (i : Nat) : Bool :=
  (buf.getD (i / 8) 0#8).getLsbD (if msbFirst then 7 - i % 8 else i % 8)

/-- `bit(TXI)`. -/
def State.txBit (s : State) : Bool := bitOf s.cfg.msbFirst s.txBuf s.txi

/-! ### The line (10_state.md R47, 20_memory.md R54) -/

/-- `PinRead()`: OUT while DIR = Out, else the environment's level, a free one where none is given. -/
def State.pinRead (s : State) : Level :=
  match s.dir with
  | .output => s.out
  | .input =>
    match s.lineIn with
    | l :: _ => l
    | [] => Config.freeLine s.lineCount

/-! ### The decoder (44_decoder.md) -/

/-- `unshift` (R145), whole-word form. -/
def unshift24 (v : BitVec 24) : BitVec 24 := v ^^^ (v >>> 1)

/-- Symbol k of a GCR20 value (R146). -/
def symbolOf (g : BitVec 24) (k : Nat) : Symbol := g.extractLsb' (5 * k) 5

/-- `GcrRom(s)` (20_memory.md R52, R147). -/
def gcrRom (cfg : Config) (s : Symbol) : Byte := gcrEntry cfg.gcrDecode s.toNat

/-- The nibble of a symbol, none for the sentinel 0xFF (R148). -/
def nibbleOf (cfg : Config) (s : Symbol) : Option Nibble :=
  if gcrRom cfg s = 0xFF#8 then none else some ((gcrRom cfg s).setWidth 4)

/-- `checksum` (R149). -/
def checksum4 (n3 n2 n1 n0 : Nibble) : Nibble := n3 ^^^ n2 ^^^ n1 ^^^ n0 ^^^ 0xF#4

/-- `Response.fromNibbles` (R150): msb = n3, lsb = {n2, n1}. -/
def respOfNibbles (n3 n2 n1 : Nibble) : BitVec 16 := word16 (n3.setWidth 8) (n2 ++ n1)

/-- ERR_CODE(e) (30_encoding.md R83). -/
def errorCode (cfg : Config) : Error → Byte
  | .none => cfg.errCode.none
  | .responseTimeout => cfg.errCode.responseTimeout
  | .badDecodeFirstNibble => cfg.errCode.badDecodeFirstNibble
  | .badDecodeSecondNibble => cfg.errCode.badDecodeSecondNibble
  | .badDecodeThirdNibble => cfg.errCode.badDecodeThirdNibble
  | .badDecodeFourthNibble => cfg.errCode.badDecodeFourthNibble
  | .badChecksum => cfg.errCode.badChecksum

/-- The Error e with ERR_CODE(e) = code (45_response.md R158). -/
def errorOfCode (cfg : Config) (code : Byte) : Option Error :=
  [Error.none, .responseTimeout, .badDecodeFirstNibble, .badDecodeSecondNibble, .badDecodeThirdNibble,
    .badDecodeFourthNibble, .badChecksum].find? fun e => errorCode cfg e == code

/-- `Response.fromError` (R151): msb = 0x80, lsb = ERR_CODE(e). -/
def respOfError (cfg : Config) (e : Error) : BitVec 16 := word16 0x80#8 (errorCode cfg e)

/-- Steps 3 to 5 of `decode` on the four symbols (R148, R149, R150), in the order the errors are tested. -/
def respOfSymbols (cfg : Config) (s3 s2 s1 s0 : Symbol) : BitVec 16 :=
  match nibbleOf cfg s3 with
  | none => respOfError cfg .badDecodeFirstNibble
  | some n3 =>
    match nibbleOf cfg s2 with
    | none => respOfError cfg .badDecodeSecondNibble
    | some n2 =>
      match nibbleOf cfg s1 with
      | none => respOfError cfg .badDecodeThirdNibble
      | some n1 =>
        match nibbleOf cfg s0 with
        | none => respOfError cfg .badDecodeFourthNibble
        | some n0 => if checksum4 n3 n2 n1 n0 = 0#4 then respOfNibbles n3 n2 n1 else respOfError cfg .badChecksum

/-- `decode(v)`, the whole pipeline (R152). -/
def decodeResponse (cfg : Config) (v : BitVec 24) : BitVec 16 :=
  let g := unshift24 v
  respOfSymbols cfg (symbolOf g 3) (symbolOf g 2) (symbolOf g 1) (symbolOf g 0)

/-! ### The Response (30_encoding.md R79 to R82, 45_response.md) -/

/-- `isError` (R157): msb[7]. -/
def respIsError (r : BitVec 16) : Bool := r.getLsbD 15

/-- `getExponent` (R159): msb[3:1]. -/
def respExponent (r : BitVec 16) : BitVec 3 := r.extractLsb' 9 3

/-- `getBase` (R160): {1, lsb} under EDT_SUPPORT, else {msb[0], lsb}. -/
def respBase (edt : Bool) (r : BitVec 16) : BitVec 9 :=
  if edt then 0x100#9 ||| (loByte r).setWidth 9 else r.extractLsb' 0 9

/-- `getPeriodMicros` (R161): base << exponent, in 16 bits. -/
def respPeriod (edt : Bool) (r : BitVec 16) : BitVec 16 := (respBase edt r).setWidth 16 <<< (respExponent r).toNat

/-- `isStopped` (R162). -/
def respIsStopped (r : BitVec 16) : Bool := hiByte r == 0x0F#8 && loByte r == 0xFF#8

/-- `isTelemetry` (R164). -/
def respIsTelemetry (edt : Bool) (r : BitVec 16) : Bool := edt && !r.getLsbD 15 && !r.getLsbD 8

/-- `getTelemetryType` (R165): msb[3:1]. -/
def respTelemTag (r : BitVec 16) : BitVec 3 := r.extractLsb' 9 3

/-- The class of a Response, tested in the order of R80. -/
def respClassOf (edt : Bool) (r : BitVec 16) : RespClass :=
  if respIsError r then .error (loByte r)
  else if respIsStopped r then .stopped
  else if respIsTelemetry edt r then .telemetry (respTelemTag r) (loByte r)
  else .period (respExponent r) (respBase edt r)

/-- RPM_ROUND as configured (R163): the identity, or a function that is free within the bound of 1 (log 21). -/
def rpmRound (rounding : RpmRounding) (q : Rat) : Rat :=
  match rounding with
  | .exact => q
  | .free n =>
    let r := Config.freeRpmRound n q
    if r - q < 1 ∧ q - r < 1 then r else q

/-- `getRPM` (R163), the exact rational, none where it would divide by zero. -/
def rpmOf (edt : Bool) (r : BitVec 16) (polePairs : Nat) : Option Rat :=
  if polePairs = 0 ∨ respPeriod edt r = 0#16 then none
  else some (mkRat 60000000 (polePairs * (respPeriod edt r).toNat))

end Sys2Proof.Machine
end

