-- ==== Sys2Proof/Machine/Flags.lean ====
section
/-! DEFINITION. The flag computations: C of the sampler, FLAG of the timer, the pending interrupt (spec/10_state.md section 3,
40_pulse_timer.md, 60_exceptions.md R179). DONE is set by the operations of Ops.lean. -/

namespace Sys2Proof.Machine

open Sys2Proof

/-- C after the sample's shift: old ACC[23] (43_receiver.md R135). -/
def shiftCarry (acc : BitVec 24) : Bool := acc.getLsbD 23

/-- ACC after the sample's shift: ACC[22:0] and the pin's level below it (43_receiver.md R135). -/
def shiftAcc (acc : BitVec 24) (level : Level) : BitVec 24 := (acc <<< 1) ||| (BitVec.ofBool level).setWidth 24

/-- The count at which the timer restarts and sets FLAG: 255 in max-timeout mode, TOP in short mode
(40_pulse_timer.md R94, R95). -/
def State.limit (s : State) : Byte :=
  match s.mode with
  | .max => 255#8
  | .short => s.top

/-- The tick sets FLAG: an overflow or a compare match (10_state.md R41). -/
def State.tickSetsFlag (s : State) : Bool := s.tcnt == s.limit

/-- TCNT after a tick (40_pulse_timer.md R94, R95). -/
def State.tickCount (s : State) : Byte := if s.tcnt = s.limit then 0#8 else s.tcnt + 1#8

/-- TCNT > TOP in short mode, for which the source defines nothing (40_pulse_timer.md R95, U6). -/
def State.overTop (s : State) : Bool := s.mode == .short && s.top.toNat < s.tcnt.toNat

/-- A pending interrupt: FLAG, IE and GIE (60_exceptions.md R179). -/
def State.pending (s : State) : Bool := s.flag && s.ie && s.gie

end Sys2Proof.Machine
end

