-- ==== Sys2Proof/Machine/Ops.lean ====
section
/-! DEFINITION. The named operations over the registers: timer, pin, line, errors, the interrupt, arming, sampling, completion,
launching and stepping the encoder, reset, and placing an instruction for the next step. Every meaning is built of these. -/

namespace Sys2Proof.Machine

open Sys2Proof

/-- What a meaning answers. -/
abbrev Result := Host.Outcome State Fault Refusal

/-- Go on from a next state; a fault or a refusal stands. -/
def andThen (r : Result) (f : State → Result) : Result :=
  match r with
  | .next s => f s
  | .fault e => .fault e
  | .refused e => .refused e

/-- A rule that applies only under its guard (43_receiver.md R126). -/
def onlyIf (guard : Bool) (r : Result) : Result := if guard then r else .refused .ruleNotEnabled

/-! ### Returning a value -/

def State.returning (s : State) (v : Value) : State := { s with ret := v }

/-- A call that only returns a value: it reads no register it does not name and writes none (46_top_level.md R173). -/
def answer (v : Value) (s : State) : Result := .next (s.returning v)

/-! ### The timer (40_pulse_timer.md R96 to R104) -/

def State.setTcnt (s : State) (v : Byte) : State := { s with tcnt := v }

def State.maxMode (s : State) : State := { s with mode := .max }

/-- MODE ← Short; TOP ← TOP_SHORT = TB − 1 (R98). -/
def State.shortMode (s : State) : State := { s with mode := .short, top := BitVec.ofNat 8 (s.cfg.tb - 1) }

def State.setRun (s : State) (b : Bool) : State := { s with run := b }

def State.setFlag (s : State) (b : Bool) : State := { s with flag := b }

def State.setIe (s : State) (b : Bool) : State := { s with ie := b }

/-- One tick of the running timer (R94, R95). -/
def State.ticked (s : State) : State := { s with tcnt := s.tickCount, flag := s.flag || s.tickSetsFlag }

/-- TCNT takes a free value: it is unspecified (10_state.md R35, U7; log 9). -/
def State.loosenTcnt (s : State) : State :=
  { s with tcnt := Config.freeTcnt s.freeCount, freeCount := s.freeCount + 1 }

/-! ### The pin and the line (20_memory.md R55, 10_state.md R47) -/

def State.setDir (s : State) (d : Dir) : State := { s with dir := d }

/-- The level read at this step is spent: the next step sees the environment's next one (log 8). -/
def State.nextLevel (s : State) : State :=
  match s.dir with
  | .output => s
  | .input => { s with lineIn := s.lineIn.tail, lineCount := s.lineCount + 1 }

/-! ### Taking an error, and the end of an operation (60_exceptions.md R176, 43_receiver.md R136) -/

/-- RESP takes the result, DONE ← 1, PHASE ← Done, and the blocked call returns RESP. -/
def State.finish (s : State) (r : BitVec 16) : State :=
  { s with resp := r, done := true, phase := .done, ret := .response r }

/-- `raise Error(e)` (R176): the block's one synchronous exception; nothing is saved and there is nothing to return
from (R175). -/
def State.raiseError (s : State) (e : Error) : State := s.finish (respOfError s.cfg e)

/-- Completion (43_receiver.md R136): IE ← 0, stop, RESP ← decode(ACC), DONE ← 1, PHASE ← Done. It is the sampler's other
way out of the interrupt (60_exceptions.md R181). -/
def State.completed (s : State) : State :=
  ((s.setIe false).setRun false).finish (decodeResponse s.cfg s.acc)

/-! ### The sampler and its interrupt (43_receiver.md R135, 60_exceptions.md R180, R181) -/

/-- ReadBitISR: the level into C, the rotate through carry, BITIDX, NEXT ← TB. -/
def State.shifted (s : State) (level : Level) : State :=
  { s with carry := shiftCarry s.acc, acc := shiftAcc s.acc level, bitidx := s.bitidx + 1, next := s.cfg.tb }

/-- ReadBitISR to its end: completion in the same step when the shift leaves C = 1, else return to the foreground loop,
for which nothing was saved and nothing is restored (R181). -/
def State.sampled (s : State) (level : Level) : State :=
  let t := s.shifted level
  if t.carry then t.completed else t

/-- Interrupt entry (R180): FLAG ← 0 and the routine JT selects runs to its end; nothing is saved and no mask or mode
changes. JT = None is refused (U21). -/
def takeInterrupt (s : State) : Result :=
  match s.jt with
  | .none => .refused .irqWithoutTarget
  | .readBit => .next (((s.setFlag false).sampled s.pinRead).nextLevel)

/-! ### Arming (43_receiver.md R128) -/

/-- The arming step: timer to max-timeout mode from 0 with flag and interrupt clear, budget, accumulator with its marker,
PREV ← 1, DONE ← 0, PHASE ← WaitingForFirstEdge, timer running. -/
def State.armed (s : State) : State :=
  { s with
    run := true, ie := false, mode := .max, tcnt := 0#8, flag := false, budget := s.cfg.nTo,
    acc := 0x000010#24, bitidx := 0, prev := true, done := false, phase := .waitingForFirstEdge, ret := .unit }

/-! ### The host's calls (46_top_level.md R173, 10_state.md R49) -/

/-- PHASE is Idle or Done. -/
def Phase.isHosts : Phase → Bool
  | .idle | .done => true
  | .sending | .waitingForFirstEdge | .sampling => false

/-- The host may act: PHASE is Idle or Done and no `send` is in progress. -/
def State.hostTurn (s : State) : Bool := s.phase.isHosts && !s.txBusy

/-- A call that touches registers: refused while the block owns them (U11). -/
def asHost (s : State) (r : Result) : Result := if s.hostTurn then r else .refused .busy

/-- A timer or top-level call that returns nothing. -/
def hostWrite (s t : State) : Result := asHost s (.next (t.returning .unit))

/-- The interrupt discipline of a launch (43_receiver.md R127, 70_reset_and_hazards.md R196). -/
def State.irqDiscipline (s : State) : Bool := s.gie && !s.otherIrq

/-! ### The encoder (42_pulsed_output.md R120, R121) -/

/-- The call step of `send` on a buffer. With no bit to send the pin is left low and the call is over (log 14). -/
def State.launched (s : State) (src : TxSrc) : State :=
  let t := { s with txSrc := src, txi := 0 }
  if t.txBits = 0 then { t with out := false }
  else { t with out := true, txph := .winA, txcnt := s.cfg.txA, txBusy := true }

/-- `send` has finished (R123). Where the next one's cycles fall within a tick is open anew (log 13). -/
def State.txFinished (s : State) : State :=
  { s with txi := s.txi + 1, txBusy := false }

/-- The encoder's part of a cycle (R121). -/
def State.encoderCycle (s : State) : State :=
  if 1 < s.txcnt then { s with txcnt := s.txcnt - 1 }
  else match s.txph with
    | .winA => { s with out := s.out && s.txBit, txph := .winB, txcnt := s.cfg.txB }
    | .winB => { s with out := false, txph := .winC, txcnt := s.cfg.txC }
    | .winC =>
      if s.txi + 1 = s.txBits then s.txFinished
      else { s with txi := s.txi + 1, out := true, txph := .winA, txcnt := s.cfg.txA }

/-- This cycle of a `send` is a tick of the running timer (40_pulse_timer.md R93). Which cycles are is an input, free where none
is given: no rule reads PRESCALE (00_scope.md R8; log 13). -/
def State.tickDue (s : State) : Bool :=
  s.run &&
    match s.ticksIn with
    | b :: _ => b
    | [] => Config.freeTick s.freeCount

/-- While RUN = 1 the input for this cycle is spent: the next cycle sees the one after it (log 13). -/
def State.nextCycle (s : State) : State :=
  if s.run then { s with ticksIn := s.ticksIn.tail, freeCount := s.freeCount + 1 } else s

/-- The timer's part of a cycle. -/
def State.cycleTicked (s : State) : State := (if s.tickDue then s.ticked else s).nextCycle

/-- A cycle of a `send`: the encoder's part and the timer's. A tick with TCNT above TOP is refused (U6), and so is an
interrupt, for which the block has no step here (R117, U23; log 16). -/
def State.txCycle (s : State) : Result :=
  if s.tickDue && s.overTop then .refused .counterAboveTop
  else if s.cycleTicked.pending then .refused .interruptDuringSend
  else .next s.cycleTicked.encoderCycle

/-! ### Reset (70_reset_and_hazards.md R189) -/

/-- The block's registers to their reset values; the configuration, the environment's registers and the inputs stay, the
resets that come later among them (log 7). -/
def State.afterReset (s : State) : State :=
  { State.reset with
    cfg := s.cfg, gie := s.gie, otherIrq := s.otherIrq, lineIn := s.lineIn, lineCount := s.lineCount,
    ticksIn := s.ticksIn, freeCount := s.freeCount + 1, calls := s.calls, resets := s.resets.tail }

/-! ### Placing an instruction for the next step (log 1) -/

/-- The host's turn after `init()`, with no interrupt pending and no reset due. -/
def State.atHostTurn (s : State) : State :=
  { s with
    phase := if s.phase.isHosts then s.phase else .idle, txBusy := false, timingFault := false, resets := [],
    ready := true, ie := s.ie && !(s.flag && s.gie) }

/-- The line reads `l` at the next step. -/
def State.withLevel (s : State) (l : Level) : State :=
  { s with dir := .input, lineIn := l :: s.lineIn.tail }

/-- The receiver waits for the first edge. -/
def State.atWait (s : State) (l : Level) : State :=
  { s.withLevel l with phase := .waitingForFirstEdge, txBusy := false, timingFault := false, resets := [] }

/-- The receiver samples; the line holds PREV or has left it. -/
def State.atSampling (s : State) (edge : Bool) : State :=
  { s.withLevel (s.prev != edge) with
    phase := .sampling, txBusy := false, timingFault := false, resets := [], jt := .readBit, ie := true, gie := true }

/-- The sequencing state that selects a step row (43_receiver.md R126): its guard holds. -/
def State.atStep (s : State) : Instr → State
  | .tickMax => { s.atHostTurn with run := true, mode := .max, ie := false, calls := [] :: s.calls.tail }
  | .tickShort =>
    { s.atHostTurn with
      run := true, mode := .short, ie := false, calls := [] :: s.calls.tail,
      tcnt := if s.top.toNat < s.tcnt.toNat then 0#8 else s.tcnt }
  | .txStep =>
    { s.atHostTurn with
      run := false, ie := false, txBusy := true, txSrc := .buffer [0#8] 8, txi := 0, txph := .winA, txcnt := s.cfg.txA,
      out := true }
  | .rxWait => { s.atWait true with tcnt := if s.tcnt = 255#8 then 0#8 else s.tcnt }
  | .rxOvf => { s.atWait true with tcnt := 255#8, budget := if 1 < s.budget then s.budget else 2 }
  | .rxTimeout => { s.atWait true with tcnt := 255#8, budget := 1 }
  | .rxFirstEdge => s.atWait false
  | .rxCount => { s.atSampling false with next := if 1 < s.next then s.next else 2 }
  | .rxEdge => { s.atSampling true with next := if s.next = 1 then 2 else s.next }
  | .rxSample => { s.atSampling false with next := 1 }
  | .rxComplete => { s.atSampling false with next := 1, acc := s.acc ||| 0x800000#24 }
  | .rxCollide => { s.atSampling true with next := 1 }
  | .irqEntry => { s.atHostTurn with flag := true, ie := true, gie := true, jt := .readBit }
  | _ => s

/-- A record as the host's next call. -/
def State.withCall (s : State) (record : List Byte) : State :=
  { s.atHostTurn with calls := record :: s.calls.tail }

/-- A word of the opcode table placed for the next step: a step row as the state that selects it, any other row as the
host's next call. -/
def State.placed (s : State) (nbits w : Nat) : State :=
  match decodeTableWord nbits w with
  | some i => if i.isStep then s.atStep i else s.withCall (tableBytes nbits w)
  | none => s.withCall (tableBytes nbits w)

end Sys2Proof.Machine
end

