-- ==== Sys2Proof/Machine/Codec.lean ====
section
/-! DEFINITION. The command codec (spec/41_command_codec.md): pure functions of their operands and the configuration. -/

namespace Sys2Proof.Machine

open Sys2Proof

/-- The frame of a command value, refused outside 0..2047 (R108); the other constructors reduce to it (30_encoding.md
R87). -/
def fromRawValue (c : Int) (t : Bool) (s : State) : Result :=
  if 0 ≤ c ∧ c ≤ 2047 then answer (.command (packCommand s.cfg.inv (BitVec.ofNat 11 c.toNat) t)) s
  else .refused .rawOutOfRange

/-- R108. -/
def execFromRaw (c : Int) (t : Bool) (s : State) : Result := fromRawValue c t s

/-- R109. -/
def execFromThrottle (n : Int) (t : Bool) (s : State) : Result := fromRawValue (clampThrottle n + 48) t s

/-- R110. -/
def execScaleToCommandMax (x : RealArg) (s : State) : Result :=
  match scaleReal s.cfg.scaleCuts x with
  | some n => answer (.scaled n) s
  | none => .refused .nanOperand

/-- R111. -/
def execFromNormalized (x : RealArg) (t : Bool) (s : State) : Result :=
  match scaleReal s.cfg.scaleCuts x with
  | some n => fromRawValue (n + 48) t s
  | none => .refused .nanOperand

/-- R107. -/
def execCrc (c : BitVec 11) (t : Bool) (s : State) : Result := answer (.u4 (crc4 s.cfg.inv c t)) s

/-- R112: 0..47; a larger operand is no special command. -/
def execFromSpecial (c : BitVec 6) (t : Bool) (s : State) : Result :=
  if c.toNat < 48 then fromRawValue c.toNat t s else .refused .notSpecial

/-- R113. -/
def execGetRaw (command : BitVec 16) (s : State) : Result := answer (.u11 (rawOf command)) s

end Sys2Proof.Machine
end

