-- ==== Sys2Proof/Machine/Decoder.lean ====
section
/-! DEFINITION. The decoder's operations as the host calls them (spec/44_decoder.md R143: pure functions of their operands). -/

namespace Sys2Proof.Machine

open Sys2Proof

/-- R152. -/
def execDecode (acc : BitVec 24) (s : State) : Result := answer (.response (decodeResponse s.cfg acc)) s

/-- R145. -/
def execUnshift (v : BitVec 24) (s : State) : Result := answer (.u24 (unshift24 v)) s

/-- R146. -/
def execSplit (g : BitVec 24) (s : State) : Result :=
  answer (.symbols (symbolOf g 3) (symbolOf g 2) (symbolOf g 1) (symbolOf g 0)) s

/-- R147. -/
def execGcrDecode (sym : Symbol) (s : State) : Result := answer (.u8 (gcrRom s.cfg sym)) s

/-- R149. -/
def execChecksum (n3 n2 n1 n0 : Nibble) (s : State) : Result := answer (.u4 (checksum4 n3 n2 n1 n0)) s

/-- R150. -/
def execFromNibbles (n3 n2 n1 : Nibble) (s : State) : Result := answer (.response (respOfNibbles n3 n2 n1)) s

/-- R151: e is an Error other than None. -/
def execFromError (e : Error) (s : State) : Result :=
  if e = .none then .refused .noneIsNotAnError else answer (.response (respOfError s.cfg e)) s

end Sys2Proof.Machine
end

