-- ==== Sys2Proof/Machine/Encoder.lean ====
section
/-! DEFINITION. The PulsedOutput encoder (spec/42_pulsed_output.md). -/

namespace Sys2Proof.Machine

open Sys2Proof

/-- `send(bytes, bitCount)` called by the host (R120): PHASE stays as it is (log 12) and DIR is not checked (R117); that no
call sets DIR for it, though 70_reset_and_hazards.md R198 has the host do so, is log 31. A launch with another interrupt
source enabled is refused (R117). -/
def execSend (bytes : List Byte) (bitCount : Nat) (s : State) : Result :=
  asHost s
    (if s.otherIrq then .refused .interruptsNotSetUp
     else if 8 * bytes.length < bitCount then .refused .bitCountTooLarge
     else .next ((s.returning .unit).launched (.buffer bytes bitCount)))

/-- The cycle step (R121), with the running timer's count (log 13). -/
def execTxStep (s : State) : Result := onlyIf s.txBusy s.txCycle

end Sys2Proof.Machine
end

