-- ==== Sys2Proof/Machine/Formats.lean ====
section
/-! DEFINITION. The words of the data formats (spec/30_encoding.md): what the block takes a CMD16, GCR5, RESP16 or ERR8 word
for. Reading a word writes no register (log 3). -/

namespace Sys2Proof.Machine

open Sys2Proof

/-- A CMD16 word: its class, telemetry bit and crc field (R68, R71); it is well formed when the crc is that of its own
fields (41_command_codec.md R106). -/
def readCommandWord (w : BitVec 16) (s : State) : Result :=
  answer
    (.commandWord (commandClass (commandValue w)) (commandT w) (commandCrc w)
      (commandCrc w == crc4 s.cfg.inv (commandValue w) (commandT w))) s

/-- A GCR5 word: the table's entry (R77, 44_decoder.md R147). -/
def readSymbol (sym : Symbol) (s : State) : Result := answer (.u8 (gcrRom s.cfg sym)) s

/-- A RESP16 word: its class in the order of R80 under the configuration's EDT_SUPPORT. -/
def readResponseWord (r : BitVec 16) (s : State) : Result := answer (.respClass (respClassOf s.cfg.edtSupport r)) s

/-- An ERR8 word: the Error with that code (R83). -/
def readErrorCode (code : Byte) (s : State) : Result := answer (.errName (errorOfCode s.cfg code)) s

def execCmd16Special0 (c : BitVec 5) (t : Bool) (crc : Nibble) (s : State) : Result :=
  readCommandWord (cmd16Special0Word c t crc) s

def execCmd16Special32 (c : BitVec 4) (t : Bool) (crc : Nibble) (s : State) : Result :=
  readCommandWord (cmd16Special32Word c t crc) s

def execCmd16Throttle (c : BitVec 11) (t : Bool) (crc : Nibble) (s : State) : Result :=
  readCommandWord (cmd16Word c t crc) s

def execGcr5_00000 (s : State) : Result := readSymbol 0b00000#5 s

def execGcr5_00001 (s : State) : Result := readSymbol 0b00001#5 s

def execGcr5_00010 (s : State) : Result := readSymbol 0b00010#5 s

def execGcr5_00011 (s : State) : Result := readSymbol 0b00011#5 s

def execGcr5_00100 (s : State) : Result := readSymbol 0b00100#5 s

def execGcr5_00101 (s : State) : Result := readSymbol 0b00101#5 s

def execGcr5_00110 (s : State) : Result := readSymbol 0b00110#5 s

def execGcr5_00111 (s : State) : Result := readSymbol 0b00111#5 s

def execGcr5_01000 (s : State) : Result := readSymbol 0b01000#5 s

def execGcr5_01001 (s : State) : Result := readSymbol 0b01001#5 s

def execGcr5_01010 (s : State) : Result := readSymbol 0b01010#5 s

def execGcr5_01011 (s : State) : Result := readSymbol 0b01011#5 s

def execGcr5_01100 (s : State) : Result := readSymbol 0b01100#5 s

def execGcr5_01101 (s : State) : Result := readSymbol 0b01101#5 s

def execGcr5_01110 (s : State) : Result := readSymbol 0b01110#5 s

def execGcr5_01111 (s : State) : Result := readSymbol 0b01111#5 s

def execGcr5_10000 (s : State) : Result := readSymbol 0b10000#5 s

def execGcr5_10001 (s : State) : Result := readSymbol 0b10001#5 s

def execGcr5_10010 (s : State) : Result := readSymbol 0b10010#5 s

def execGcr5_10011 (s : State) : Result := readSymbol 0b10011#5 s

def execGcr5_10100 (s : State) : Result := readSymbol 0b10100#5 s

def execGcr5_10101 (s : State) : Result := readSymbol 0b10101#5 s

def execGcr5_10110 (s : State) : Result := readSymbol 0b10110#5 s

def execGcr5_10111 (s : State) : Result := readSymbol 0b10111#5 s

def execGcr5_11000 (s : State) : Result := readSymbol 0b11000#5 s

def execGcr5_11001 (s : State) : Result := readSymbol 0b11001#5 s

def execGcr5_11010 (s : State) : Result := readSymbol 0b11010#5 s

def execGcr5_11011 (s : State) : Result := readSymbol 0b11011#5 s

def execGcr5_11100 (s : State) : Result := readSymbol 0b11100#5 s

def execGcr5_11101 (s : State) : Result := readSymbol 0b11101#5 s

def execGcr5_11110 (s : State) : Result := readSymbol 0b11110#5 s

def execGcr5_11111 (s : State) : Result := readSymbol 0b11111#5 s

def execResp16Error (low : BitVec 7) (code : Byte) (s : State) : Result :=
  readResponseWord (resp16ErrorWord low code) s

def execResp16Stopped (s : State) : Result := readResponseWord 0x0FFF#16 s

def execResp16Telemetry (rsv tag : BitVec 3) (value : Byte) (s : State) : Result :=
  readResponseWord (resp16TelemetryWord rsv tag value) s

def execResp16Period (rsv exponent : BitVec 3) (base : BitVec 9) (s : State) : Result :=
  readResponseWord (resp16PeriodWord rsv exponent base) s

def execErr8None (s : State) : Result := readErrorCode 0#8 s

def execErr8ResponseTimeout (s : State) : Result := readErrorCode 1#8 s

def execErr8BadDecodeFirstNibble (s : State) : Result := readErrorCode 2#8 s

def execErr8BadDecodeSecondNibble (s : State) : Result := readErrorCode 3#8 s

def execErr8BadDecodeThirdNibble (s : State) : Result := readErrorCode 4#8 s

def execErr8BadDecodeFourthNibble (s : State) : Result := readErrorCode 5#8 s

def execErr8BadChecksum (s : State) : Result := readErrorCode 6#8 s

end Sys2Proof.Machine
end

