-- ==== Sys2Proof/Machine/PulseTimer.lean ====
section
/-! DEFINITION. The timer's operations and ticks (spec/40_pulse_timer.md). The tick that falls in the same step as a call is
the sequencer's (log 10). -/

namespace Sys2Proof.Machine

open Sys2Proof

/-- R96. -/
def execSetCounter (value : Byte) (s : State) : Result := hostWrite s (s.setTcnt value)

/-- R97. -/
def execSetMaxTimeout (s : State) : Result := hostWrite s s.maxMode

/-- R98. -/
def execSetShortTimeout (s : State) : Result := hostWrite s s.shortMode

/-- R99. -/
def execStart (s : State) : Result := hostWrite s (s.setRun true)

/-- R100. -/
def execStop (s : State) : Result := hostWrite s (s.setRun false)

/-- R101. -/
def execClearFlag (s : State) : Result := hostWrite s (s.setFlag false)

/-- R102: FLAG is returned and kept. -/
def execHasOverflowed (s : State) : Result := asHost s (answer (.bit s.flag) s)

/-- R103. -/
def execEnableInterrupt (s : State) : Result := hostWrite s (s.setIe true)

/-- R104. -/
def execDisableInterrupt (s : State) : Result := hostWrite s (s.setIe false)

/-- R94: RUN = 1 and MODE = Max. -/
def execTickMax (s : State) : Result := onlyIf (s.run && s.mode == .max) (.next s.ticked)

/-- R95: RUN = 1 and MODE = Short; TCNT > TOP is refused (U6). -/
def execTickShort (s : State) : Result :=
  onlyIf (s.run && s.mode == .short) (if s.overTop then .refused .counterAboveTop else .next s.ticked)

end Sys2Proof.Machine
end

