-- ==== Sys2Proof/Machine/Receiver.lean ====
section
/-! DEFINITION. The receiver's steps (spec/43_receiver.md) and interrupt entry (spec/60_exceptions.md R180). Each spends the
level it read. TCNT is unspecified while sampling and takes a free value at each such step (log 9). -/

namespace Sys2Proof.Machine

open Sys2Proof

/-- Waiting and the line reads 1. -/
def State.waitsHigh (s : State) : Bool := s.phase == .waitingForFirstEdge && s.pinRead

/-- Sampling and the foreground loop sees no edge. -/
def State.holdsLevel (s : State) : Bool := s.phase == .sampling && s.pinRead == s.prev

/-- Sampling and the foreground loop sees an edge. -/
def State.seesEdge (s : State) : Bool := s.phase == .sampling && s.pinRead != s.prev

/-- R129. -/
def execRxWait (s : State) : Result :=
  onlyIf (s.waitsHigh && s.tcnt != 255#8) (.next (s.setTcnt (s.tcnt + 1#8)).nextLevel)

/-- R130. -/
def execRxOvf (s : State) : Result :=
  onlyIf (s.waitsHigh && s.tcnt == 255#8 && decide (1 < s.budget))
    (.next { s with tcnt := 0#8, flag := false, budget := s.budget - 1 }.nextLevel)

/-- R131. -/
def execRxTimeout (s : State) : Result :=
  onlyIf (s.waitsHigh && s.tcnt == 255#8 && s.budget == 1)
    (.next ({ s with tcnt := 0#8, flag := false, budget := 0, run := false }.raiseError .responseTimeout).nextLevel)

/-- R132. -/
def execRxFirstEdge (s : State) : Result :=
  onlyIf (s.phase == .waitingForFirstEdge && !s.pinRead)
    (.next
      { s.shortMode.loosenTcnt.nextLevel with
        next := s.cfg.tb + s.cfg.th, flag := false, jt := .readBit, ie := true, prev := false, phase := .sampling })

/-- R133. -/
def execRxCount (s : State) : Result :=
  onlyIf (s.holdsLevel && decide (1 < s.next)) (.next { s.loosenTcnt.nextLevel with next := s.next - 1 })

/-- R134. -/
def execRxEdge (s : State) : Result :=
  onlyIf (s.seesEdge && s.next != 1)
    (.next { s.loosenTcnt.nextLevel with prev := s.pinRead, next := s.cfg.th })

/-- R135: the compare match sets FLAG and the interrupt is taken in the same tick through JT, which clears it; with the
interrupt masked the sampler never runs and the receive is stuck (U2; log 18). -/
def execRxSample (s : State) : Result :=
  onlyIf (s.holdsLevel && s.next == 1)
    (if (s.setFlag true).pending then takeInterrupt (s.setFlag true).loosenTcnt else .fault .samplerMasked)

/-- R136: inside the sampling step, when the shift has left C = 1. -/
def execRxComplete (s : State) : Result := onlyIf (s.phase == .sampling && s.carry) (.next s.completed)

/-- R137: `fault TIMING` sets TIMING_FAULT, from which no step goes on (10_state.md R48; log 17). -/
def execRxCollide (s : State) : Result :=
  onlyIf (s.seesEdge && s.next == 1) (.next { s.loosenTcnt.nextLevel with timingFault := true })

/-- 60_exceptions.md R180. -/
def execIrqEntry (s : State) : Result := onlyIf s.pending (takeInterrupt s)

end Sys2Proof.Machine
end

