-- ==== Sys2Proof/Machine/Response.lean ====
section
/-! DEFINITION. The Response queries (spec/45_response.md): formulas on the 16 bits, total but where a rule refuses (R156). -/

namespace Sys2Proof.Machine

open Sys2Proof

/-- R157. -/
def execIsError (r : BitVec 16) (s : State) : Result := answer (.bit (respIsError r)) s

/-- R158: None for a non-error Response; an unknown code is refused. -/
def execGetError (r : BitVec 16) (s : State) : Result :=
  if respIsError r then
    match errorOfCode s.cfg (loByte r) with
    | some e => answer (.error e) s
    | none => .refused .unknownErrorCode
  else answer (.error .none) s

/-- R159. -/
def execGetExponent (r : BitVec 16) (s : State) : Result := answer (.u3 (respExponent r)) s

/-- R160. -/
def execGetBase (r : BitVec 16) (s : State) : Result := answer (.u9 (respBase s.cfg.edtSupport r)) s

/-- R161. -/
def execGetPeriodMicros (r : BitVec 16) (s : State) : Result := answer (.u16 (respPeriod s.cfg.edtSupport r)) s

/-- R162. -/
def execIsStopped (r : BitVec 16) (s : State) : Result := answer (.bit (respIsStopped r)) s

/-- R164. -/
def execIsTelemetry (r : BitVec 16) (s : State) : Result := answer (.bit (respIsTelemetry s.cfg.edtSupport r)) s

/-- R165. -/
def execGetTelemetryType (r : BitVec 16) (s : State) : Result :=
  answer (.telemType (respTelemTag r) (s.cfg.telemTag.lookup (respTelemTag r))) s

/-- R166. -/
def execGetTelemetryValue (r : BitVec 16) (s : State) : Result := answer (.u8 (loByte r)) s

/-- R163: exact, and RPM_ROUND of it. -/
def execGetRPM (r : BitVec 16) (polePairs : Nat) (s : State) : Result :=
  match rpmOf s.cfg.edtSupport r polePairs with
  | some q => answer (.rpm q (rpmRound s.cfg.rpmRound q)) s
  | none => .refused .zeroDivisor

end Sys2Proof.Machine
end

