-- ==== Sys2Proof/Machine/TopLevel.lean ====
section
/-! DEFINITION. The caller-facing operations (spec/46_top_level.md, 43_receiver.md R128). -/

namespace Sys2Proof.Machine

open Sys2Proof

/-- `init()` (46_top_level.md R169); `ready` records that it was called (70_reset_and_hazards.md R190; log 32). -/
def execInit (s : State) : Result :=
  hostWrite s
    { s with
      run := false, ie := false, flag := false, mode := .max, tcnt := 0#8, jt := .none, out := false, dir := .input,
      done := false, phase := .idle, ready := true }

/-- `sendCommand(command)`, stages 0 and 1 (R170): CMD ← command, DONE ← 0, PHASE ← Sending, DIR ← Out and the call step of
`send(TXBUF, 16)`. Stages 2 to 5 are steps the machine takes by itself. A word whose crc field is not that of its own fields,
which no constructor returns (41_command_codec.md R106), is sent as it is (log 30). Before `init()` the call is refused
(70_reset_and_hazards.md R190; log 32). -/
def execSendCommand (command : BitVec 16) (s : State) : Result :=
  asHost s
    (if !s.ready then .refused .notInitialised
     else if !s.cfg.msbFirst then .refused .msbFirstRequired
     else if !s.irqDiscipline then .refused .interruptsNotSetUp
     else
      .next
        ({ s with cmd := command, done := false, phase := .sending, dir := .output, ret := .unit }.launched .frame))

/-- `getResponse()` (43_receiver.md R128): the arming step. In the step after a frame it is stage 3 of `sendCommand`, which
returns the pin to input first (46_top_level.md R170, R171); called by the host it has the preconditions of
`sendCommand` (R168, U10; log 15, log 32) and leaves DIR as it is (70_reset_and_hazards.md R198; log 31). -/
def execGetResponse (s : State) : Result :=
  if s.phase = .sending ∧ s.txBusy = false then .next (s.setDir .input).armed
  else
    asHost s
      (if !s.ready then .refused .notInitialised
       else if !s.cfg.msbFirst then .refused .msbFirstRequired
       else if !s.irqDiscipline then .refused .interruptsNotSetUp
       else .next s.armed)

end Sys2Proof.Machine
end

