-- ==== Sys2Proof/Machine/Dispatch.lean ====
section
/-! DEFINITION. The dispatcher: one arm per constructor of Instr, each a direct call of its meaning. -/

namespace Sys2Proof.Machine

open Sys2Proof

def exec (i : Instr) (s : State) : Host.Outcome State Fault Refusal :=
  match i with
  | .init => Sys2Proof.Machine.execInit s
  | .sendCommand command => Sys2Proof.Machine.execSendCommand command s
  | .getResponse => Sys2Proof.Machine.execGetResponse s
  | .setCounter value => Sys2Proof.Machine.execSetCounter value s
  | .setMaxTimeout => Sys2Proof.Machine.execSetMaxTimeout s
  | .setShortTimeout => Sys2Proof.Machine.execSetShortTimeout s
  | .start => Sys2Proof.Machine.execStart s
  | .stop => Sys2Proof.Machine.execStop s
  | .clearFlag => Sys2Proof.Machine.execClearFlag s
  | .hasOverflowed => Sys2Proof.Machine.execHasOverflowed s
  | .enableInterrupt => Sys2Proof.Machine.execEnableInterrupt s
  | .disableInterrupt => Sys2Proof.Machine.execDisableInterrupt s
  | .fromRaw c t => Sys2Proof.Machine.execFromRaw c t s
  | .fromThrottle n t => Sys2Proof.Machine.execFromThrottle n t s
  | .scaleToCommandMax x => Sys2Proof.Machine.execScaleToCommandMax x s
  | .fromNormalized x t => Sys2Proof.Machine.execFromNormalized x t s
  | .crc c t => Sys2Proof.Machine.execCrc c t s
  | .fromSpecial c t => Sys2Proof.Machine.execFromSpecial c t s
  | .getRaw command => Sys2Proof.Machine.execGetRaw command s
  | .send bytes bitCount => Sys2Proof.Machine.execSend bytes bitCount s
  | .decode acc => Sys2Proof.Machine.execDecode acc s
  | .unshift v => Sys2Proof.Machine.execUnshift v s
  | .split g => Sys2Proof.Machine.execSplit g s
  | .gcrDecode sym => Sys2Proof.Machine.execGcrDecode sym s
  | .checksum n3 n2 n1 n0 => Sys2Proof.Machine.execChecksum n3 n2 n1 n0 s
  | .fromNibbles n3 n2 n1 => Sys2Proof.Machine.execFromNibbles n3 n2 n1 s
  | .fromError e => Sys2Proof.Machine.execFromError e s
  | .isError r => Sys2Proof.Machine.execIsError r s
  | .getError r => Sys2Proof.Machine.execGetError r s
  | .getExponent r => Sys2Proof.Machine.execGetExponent r s
  | .getBase r => Sys2Proof.Machine.execGetBase r s
  | .getPeriodMicros r => Sys2Proof.Machine.execGetPeriodMicros r s
  | .isStopped r => Sys2Proof.Machine.execIsStopped r s
  | .isTelemetry r => Sys2Proof.Machine.execIsTelemetry r s
  | .getTelemetryType r => Sys2Proof.Machine.execGetTelemetryType r s
  | .getTelemetryValue r => Sys2Proof.Machine.execGetTelemetryValue r s
  | .getRPM r polePairs => Sys2Proof.Machine.execGetRPM r polePairs s
  | .tickMax => Sys2Proof.Machine.execTickMax s
  | .tickShort => Sys2Proof.Machine.execTickShort s
  | .txStep => Sys2Proof.Machine.execTxStep s
  | .rxWait => Sys2Proof.Machine.execRxWait s
  | .rxOvf => Sys2Proof.Machine.execRxOvf s
  | .rxTimeout => Sys2Proof.Machine.execRxTimeout s
  | .rxFirstEdge => Sys2Proof.Machine.execRxFirstEdge s
  | .rxCount => Sys2Proof.Machine.execRxCount s
  | .rxEdge => Sys2Proof.Machine.execRxEdge s
  | .rxSample => Sys2Proof.Machine.execRxSample s
  | .rxComplete => Sys2Proof.Machine.execRxComplete s
  | .rxCollide => Sys2Proof.Machine.execRxCollide s
  | .irqEntry => Sys2Proof.Machine.execIrqEntry s
  | .cmd16Special0 c t crc => Sys2Proof.Machine.execCmd16Special0 c t crc s
  | .cmd16Special32 c t crc => Sys2Proof.Machine.execCmd16Special32 c t crc s
  | .cmd16Throttle c t crc => Sys2Proof.Machine.execCmd16Throttle c t crc s
  | .gcr5_00000 => Sys2Proof.Machine.execGcr5_00000 s
  | .gcr5_00001 => Sys2Proof.Machine.execGcr5_00001 s
  | .gcr5_00010 => Sys2Proof.Machine.execGcr5_00010 s
  | .gcr5_00011 => Sys2Proof.Machine.execGcr5_00011 s
  | .gcr5_00100 => Sys2Proof.Machine.execGcr5_00100 s
  | .gcr5_00101 => Sys2Proof.Machine.execGcr5_00101 s
  | .gcr5_00110 => Sys2Proof.Machine.execGcr5_00110 s
  | .gcr5_00111 => Sys2Proof.Machine.execGcr5_00111 s
  | .gcr5_01000 => Sys2Proof.Machine.execGcr5_01000 s
  | .gcr5_01001 => Sys2Proof.Machine.execGcr5_01001 s
  | .gcr5_01010 => Sys2Proof.Machine.execGcr5_01010 s
  | .gcr5_01011 => Sys2Proof.Machine.execGcr5_01011 s
  | .gcr5_01100 => Sys2Proof.Machine.execGcr5_01100 s
  | .gcr5_01101 => Sys2Proof.Machine.execGcr5_01101 s
  | .gcr5_01110 => Sys2Proof.Machine.execGcr5_01110 s
  | .gcr5_01111 => Sys2Proof.Machine.execGcr5_01111 s
  | .gcr5_10000 => Sys2Proof.Machine.execGcr5_10000 s
  | .gcr5_10001 => Sys2Proof.Machine.execGcr5_10001 s
  | .gcr5_10010 => Sys2Proof.Machine.execGcr5_10010 s
  | .gcr5_10011 => Sys2Proof.Machine.execGcr5_10011 s
  | .gcr5_10100 => Sys2Proof.Machine.execGcr5_10100 s
  | .gcr5_10101 => Sys2Proof.Machine.execGcr5_10101 s
  | .gcr5_10110 => Sys2Proof.Machine.execGcr5_10110 s
  | .gcr5_10111 => Sys2Proof.Machine.execGcr5_10111 s
  | .gcr5_11000 => Sys2Proof.Machine.execGcr5_11000 s
  | .gcr5_11001 => Sys2Proof.Machine.execGcr5_11001 s
  | .gcr5_11010 => Sys2Proof.Machine.execGcr5_11010 s
  | .gcr5_11011 => Sys2Proof.Machine.execGcr5_11011 s
  | .gcr5_11100 => Sys2Proof.Machine.execGcr5_11100 s
  | .gcr5_11101 => Sys2Proof.Machine.execGcr5_11101 s
  | .gcr5_11110 => Sys2Proof.Machine.execGcr5_11110 s
  | .gcr5_11111 => Sys2Proof.Machine.execGcr5_11111 s
  | .resp16Error low code => Sys2Proof.Machine.execResp16Error low code s
  | .resp16Stopped => Sys2Proof.Machine.execResp16Stopped s
  | .resp16Telemetry rsv tag value => Sys2Proof.Machine.execResp16Telemetry rsv tag value s
  | .resp16Period rsv exponent base => Sys2Proof.Machine.execResp16Period rsv exponent base s
  | .err8None => Sys2Proof.Machine.execErr8None s
  | .err8ResponseTimeout => Sys2Proof.Machine.execErr8ResponseTimeout s
  | .err8BadDecodeFirstNibble => Sys2Proof.Machine.execErr8BadDecodeFirstNibble s
  | .err8BadDecodeSecondNibble => Sys2Proof.Machine.execErr8BadDecodeSecondNibble s
  | .err8BadDecodeThirdNibble => Sys2Proof.Machine.execErr8BadDecodeThirdNibble s
  | .err8BadDecodeFourthNibble => Sys2Proof.Machine.execErr8BadDecodeFourthNibble s
  | .err8BadChecksum => Sys2Proof.Machine.execErr8BadChecksum s

end Sys2Proof.Machine
end

