-- ==== Sys2Proof/Machine/Sequencer.lean ====
section
/-! DEFINITION. Which instruction a step runs (spec/43_receiver.md R126, 20_memory.md R63), and what falls in the same step as a
call of the host: the timer's tick (log 10) and the interrupt it may raise (log 11). -/

namespace Sys2Proof.Machine

open Sys2Proof

/-- The step rule the block takes by itself outside the host's turn: one row of the table of R126. -/
def State.ownStep (s : State) : Option Instr :=
  match s.phase with
  | .idle | .done => if s.txBusy then some .txStep else none
  | .sending => if s.txBusy then some .txStep else some .getResponse
  | .waitingForFirstEdge =>
    if !s.pinRead then some .rxFirstEdge
    else if s.tcnt ≠ 255#8 then some .rxWait
    else if 1 < s.budget then some .rxOvf
    else if s.budget = 1 then some .rxTimeout
    else none
  | .sampling =>
    if s.pinRead = s.prev then
      if 1 < s.next then some .rxCount else if s.next = 1 then some .rxSample else none
    else if s.next = 1 then some .rxCollide
    else some .rxEdge

/-- The calls that launch a `send`. -/
def launchesSend : Instr → Bool
  | .sendCommand _ | .send _ _ => true
  | _ => false

/-- The calls of the timer that do not write TCNT themselves (40_pulse_timer.md R96), and the interrupt entry. -/
def keepsCount : Instr → Bool
  | .setMaxTimeout | .setShortTimeout | .start | .stop | .clearFlag | .hasOverflowed | .enableInterrupt | .disableInterrupt
  | .irqEntry => true
  | _ => false

/-- What has the timer's tick beside it in its step. Calls that write TCNT have none (R96, R105), and a call of the codec, the
decoder or the queries is no step of the block and takes no tick (44_decoder.md R143, 46_top_level.md R173; log 10). -/
def hasTick (i : Instr) : Bool := launchesSend i || keepsCount i

/-- The tick that falls in the step of a host call, counted from the state before it. There is none when RUN is 0 before
(R99) or after (R100); FLAG set by it wins over the call (R101). -/
def tickAlong (i : Instr) (before after : State) : Result :=
  if before.run && after.run && hasTick i then
    if before.overTop then .refused .counterAboveTop
    else .next { after with tcnt := before.tickCount, flag := after.flag || before.tickSetsFlag }
  else .next after

/-- An interrupt raised in the step is taken in the same tick (60_exceptions.md R180); raised in the call step of a `send`, for
which the block has no step that takes one, it is refused (U23; log 16). An interrupt that completes a receive here puts RESP in
`ret`, and what the call of the step returned there is lost; the spec does not say how the two results meet (R181; log 11). -/
def serviced (s : State) : Result :=
  if s.pending then if s.hostTurn then exec .irqEntry s else .refused .interruptDuringSend
  else .next s

/-- A step in which the host calls `i`. -/
def callStep (i : Instr) (s : State) : Result :=
  andThen (exec i s) fun t => andThen (tickAlong i s t) serviced

/-- A step in which the host calls nothing: the running timer ticks. -/
def idleStep (s : State) : Result :=
  if s.run then
    andThen (match s.mode with
      | .max => exec .tickMax s
      | .short => exec .tickShort s) serviced
  else .next s

/-- The host's turn: a pending interrupt, else the next call record, an empty one being a step without a call. One interrupt is
taken in a step: FLAG set again by the tick of the step that takes the pending one waits for the next step (log 11). -/
def hostStep (s : State) : Result :=
  if s.pending then andThen (exec .irqEntry s) (tickAlong .irqEntry s)
  else
    match s.calls with
    | [] => idleStep s
    | [] :: rest => idleStep { s with calls := rest }
    | (b :: bs) :: rest =>
      match decode (b :: bs) with
      | .error e => .refused (.badCall e)
      | .ok (i, _) => if i.isStep then .refused .stepIsNotACall else callStep i { s with calls := rest }

/-- One step, no reset being due. TIMING_FAULT stops the machine (10_state.md R48). -/
def advance (s : State) : Result :=
  if s.timingFault then .fault .timing
  else if s.hostTurn then hostStep s
  else
    match s.ownStep with
    | some i => exec i s
    | none => .refused .noRule

/-- A step with the watchdog's resets, which can come at any step (70_reset_and_hazards.md R189; log 7). -/
def stepOrReset (s : State) : Result :=
  match s.resets with
  | 0 :: _ => .next s.afterReset
  | (n + 1) :: rest => advance { s with resets := n :: rest }
  | [] => advance s

end Sys2Proof.Machine
end

