-- ==== Sys2Proof/Machine/Step.lean ====
section
/-! DEFINITION. One step of the machine, and how the host places a word of the opcode table for the next step. -/

namespace Sys2Proof.Machine

open Sys2Proof

/-- One step: a processor cycle while transmitting, a timer tick otherwise (spec/00_scope.md R20). -/
def step (s : State) : Host.Outcome State Fault Refusal := stepOrReset s

/-- `s` with a word of the opcode table placed so that the next step runs it (log 1). -/
def State.withFetchWord (s : State) (nbits w : Nat) : State := s.placed nbits w

end Sys2Proof.Machine
end

