-- ==== Sys2Proof/Safety.lean ====
section
/-! DEFINITION. What every state of a run satisfies, and what it is for a run to go on: the terms statements use. -/

namespace Sys2Proof.Machine

open Sys2Proof

/-- The cycles of a window (spec/42_pulsed_output.md R119). -/
def State.window (s : State) : TxPh → Nat
  | .winA => s.cfg.txA
  | .winB => s.cfg.txB
  | .winC => s.cfg.txC

/-- OUT within a bit: high in window A, the bit in window B, low in window C (R119). -/
def State.windowLevel (s : State) : TxPh → Level
  | .winA => true
  | .winB => s.txBit
  | .winC => false

/-- While `send` is in progress: a bit of the buffer, a cycle of its window, the level of that window. -/
structure State.TxInv (s : State) : Prop where
  phase : s.phase.isHosts = true ∨ s.phase = .sending
  bit : s.txi < s.txBits
  cycle : 1 ≤ s.txcnt ∧ s.txcnt ≤ s.window s.txph
  level : s.out = s.windowLevel s.txph

/-- While the frame of a command is sent (46_top_level.md R170). -/
structure State.SendInv (s : State) : Prop where
  src : s.txSrc = .frame
  dir : s.dir = .output
  ended : s.txBusy = false → s.out = false ∧ s.txi = 16

/-- While waiting for the first edge (43_receiver.md R128 to R131). -/
structure State.WaitInv (s : State) : Prop where
  budget : 1 ≤ s.budget ∧ s.budget ≤ s.cfg.nTo
  acc : s.acc = 0x000010#24
  bitidx : s.bitidx = 0
  prev : s.prev = true
  timer : s.mode = .max ∧ s.run = true ∧ s.ie = false ∧ s.flag = false
  noTx : s.txBusy = false

/-- ACC while k samples are taken (10_state.md R25, 30_encoding.md R75): at and above bit k only the marker, at k + 4. -/
def AccInv (acc : BitVec 24) (k : Nat) : Prop :=
  k ≤ 19 ∧ ∀ i, k ≤ i → i < 24 → acc.getLsbD i = decide (i = k + 4)

/-- While sampling (43_receiver.md R132 to R135). -/
structure State.SampleInv (s : State) : Prop where
  acc : AccInv s.acc s.bitidx
  next : 1 ≤ s.next ∧ s.next ≤ s.cfg.tb + s.cfg.th
  timer : s.mode = .short ∧ s.top = BitVec.ofNat 8 (s.cfg.tb - 1) ∧ s.run = true ∧ s.flag = false
  irq : s.jt = .readBit ∧ s.ie = true
  noTx : s.txBusy = false

/-- The invariant of the machine. -/
structure State.Inv (s : State) : Prop where
  cfg : s.cfg.ok
  done : s.done = true ↔ s.phase = .done
  idle : s.phase = .idle → s.jt = .none
  fault : s.timingFault = true → s.phase = .sampling
  tx : s.txBusy = true → s.TxInv
  send : s.phase = .sending → s.SendInv
  wait : s.phase = .waitingForFirstEdge → s.WaitInv
  sample : s.phase = .sampling → s.SampleInv

/-- The next step answers a next state. -/
def State.goesOn (s : State) : Prop := ∃ t, step s = .next t

/-- `k` steps lead from `s` to `t`. -/
def RunsTo (k : Nat) (s t : State) : Prop := Host.Core.run Sys2Proof.core k s = .next t

/-- `t` is reached from `s` by some number of steps. -/
def Reaches (s t : State) : Prop := ∃ k, RunsTo k s t

/-- No reset is due and TIMING_FAULT is 0: the step is the rules' (spec/10_state.md R48). -/
def State.quiet (s : State) : Prop := s.resets = [] ∧ s.timingFault = false

/-- For `k` cycles of a `send` the timer neither meets a count above TOP nor raises an interrupt that would be taken: the
premise of exact pulses (spec/42_pulsed_output.md R117). With RUN = 0, or with IE or GIE 0, only the first can happen. -/
def State.undisturbed (s : State) (k : Nat) : Prop :=
  s.pending = false ∧
    (s.run = true → s.overTop = false ∧ (s.ie = false ∨ s.gie = false ∨ s.tcnt.toNat + k ≤ s.limit.toNat))

/-- The ticks of a timer that counts every `p` cycles, over `n` cycles, the first at phase `phase` of its tick: what the clock of
this hardware puts in for PRESCALE = `p` (spec/00_scope.md R8, 40_pulse_timer.md R93). -/
def tickCycles (p phase n : Nat) : List Bool := (List.range n).map fun k => (k + phase) % p == 0

/-- A line that holds each of the levels for `n` ticks, one cell after the other (spec/30_encoding.md R73). -/
def cells (n : Nat) (levels : List Level) : List Level := levels.flatMap (List.replicate n)

/-- The 20 data cells of a raw value, the first cell in its bit 19 (spec/20_memory.md R57). -/
def dataLevels (r : BitVec 20) : List Level := (List.range 20).map fun m => r.getLsbD (19 - m)

/-- What an ESC does for nibbles n3, n2, n1 (spec/44_decoder.md R153): the symbol of a nibble, found in the table. -/
def escSymbol (c : Config) (n : Nibble) : Symbol := BitVec.ofNat 5 (c.gcrDecode.findIdx (· == n.setWidth 8))

/-- The GCR20 value of the four symbols (R153), n0 being the nibble that makes the checksum right. -/
def escValue (c : Config) (n3 n2 n1 : Nibble) : BitVec 20 :=
  escSymbol c n3 ++ escSymbol c n2 ++ escSymbol c n1 ++ escSymbol c (n3 ^^^ n2 ^^^ n1 ^^^ 0xF#4)

/-- The top `k` levels of `g` sent as level changes (R153): r[19] = g[19], r[i] = r[i+1] ^ g[i] below. -/
def nrziFrom (g : BitVec 20) : Nat → BitVec 20
  | 0 => 0#20
  | k + 1 =>
    let r := nrziFrom g k
    r ||| (BitVec.ofBool (r.getLsbD (20 - k) != g.getLsbD (19 - k))).setWidth 20 <<< (19 - k)

/-- The 20 raw levels an ESC sends for three data nibbles (R153). -/
def escLevels (c : Config) (n3 n2 n1 : Nibble) : BitVec 20 := nrziFrom (escValue c n3 n2 n1) 20

/-- A line that holds `l` for the first number of ticks, the other level for the second, and so on. -/
def alternating : Level → List Nat → List Level
  | _, [] => []
  | l, g :: gs => List.replicate g l ++ alternating (!l) gs

/-- The cycles of one transmitted bit (spec/42_pulsed_output.md R116). -/
def bitCycles (c : Config) : Nat := c.txA + c.txB + c.txC

/-- The line in cycle `j` of a `send` (spec/42_pulsed_output.md R122). -/
def waveLevel (c : Config) (bit : Nat → Bool) (j : Nat) : Level :=
  decide (j % bitCycles c < c.txA) || (decide (j % bitCycles c < c.txA + c.txB) && bit (j / bitCycles c))

end Sys2Proof.Machine
end

