-- ==== Sys2Proof/Certificates/Slice0/Obligations.lean ====
section
/-! DEFINITION. The statements for the provers. A meaning's statement gives the whole next state as the old one with the
fields the rule writes: what is not written there is unchanged. `ret` is the model's own field for what a call returns
(log 19); `lineIn`, `lineCount` and `freeCount` are its inputs and free values (log 8, log 9). -/

section

open Sys2Proof Sys2Proof.Machine

/-! ### Reset and invariants -/

/-- 10_state.md section 11, 70_reset_and_hazards.md section 1 (D17): what reset leaves, from power-on and from the watchdog
at any step, and that resets to come stay to come (how the model brings them in is log 7; `ready` is log 32). -/
def Obligations.ResetLeavesEveryActivityOff : Prop :=
  (State.reset.phase = .idle ∧ State.reset.done = false ∧ State.reset.run = false ∧ State.reset.flag = false ∧
    State.reset.ie = false ∧ State.reset.dir = .input ∧ State.reset.timingFault = false) ∧
  ∀ (s : State) (rest : List Nat), s.resets = 0 :: rest →
    ∃ t, step s = .next t ∧ t.phase = .idle ∧ t.done = false ∧ t.run = false ∧ t.flag = false ∧ t.ie = false ∧
      t.dir = .input ∧ t.timingFault = false ∧ t.txBusy = false ∧ t.cfg = s.cfg ∧ t.gie = s.gie ∧ t.otherIrq = s.otherIrq ∧
      t.resets = rest ∧ t.ready = false

/-- The invariant of Safety.lean holds right after reset. That includes `Config.ok` of the configuration State.reset carries,
which is the model's choice (log 4, with the presumed GCR table of log 22), and the registers the spec leaves unspecified
(log 5). -/
def Obligations.InvHoldsAtReset : Prop := State.reset.Inv

/-- From every state of the invariant a step, of whatever kind, leads to a state of the invariant. That the watchdog's reset
does so for the clause 'JT None in Idle' rests on the model's choice of JT None after reset, which the spec leaves open
(log 5). -/
def Obligations.EveryStepKeepsInv : Prop := ∀ s t : State, s.Inv → step s = .next t → t.Inv

/-- R44, and the same of GIE (10_state.md section 7) and of the configuration (00_scope.md section 4). -/
def Obligations.TheBlockNeverWritesTheEnvironmentsRegisters : Prop :=
  (∀ s t : State, step s = .next t → t.otherIrq = s.otherIrq ∧ t.gie = s.gie ∧ t.cfg = s.cfg) ∧
  (∀ (command : BitVec 16) (s t : State), exec (.sendCommand command) s = .next t → s.otherIrq = false ∧ s.gie = true)

/-- 10_state.md sections 2 to 9: which operations and steps write each register, over every instruction. A register that
changed was written by one of those named for it. That `txStep` may write TCNT and FLAG is the model's reading of a timer
left running during a `send` (log 13); R37 and R41 name no such writer. `ready` is the model's own
record of `init()` (log 32). -/
def Obligations.OnlyTheNamedInstructionsWriteARegister : Prop :=
  ∀ (i : Instr) (s t : State), exec i s = .next t →
    (t.cmd ≠ s.cmd → ∃ c, i = .sendCommand c) ∧
    (t.acc ≠ s.acc → i ∈ [Instr.getResponse, .rxSample, .irqEntry]) ∧
    (t.resp ≠ s.resp → i ∈ [Instr.rxTimeout, .rxSample, .rxComplete, .irqEntry]) ∧
    (t.carry ≠ s.carry → i ∈ [Instr.rxSample, .irqEntry]) ∧
    (t.done ≠ s.done →
      (∃ c, i = .sendCommand c) ∨ i ∈ [Instr.init, .getResponse, .rxTimeout, .rxSample, .rxComplete, .irqEntry]) ∧
    (t.phase ≠ s.phase →
      (∃ c, i = .sendCommand c) ∨
        i ∈ [Instr.init, .getResponse, .rxTimeout, .rxFirstEdge, .rxSample, .rxComplete, .irqEntry]) ∧
    (t.txi ≠ s.txi ∨ t.txph ≠ s.txph ∨ t.txcnt ≠ s.txcnt ∨ t.txBusy ≠ s.txBusy →
      (∃ c, i = .sendCommand c) ∨ (∃ b n, i = .send b n) ∨ i = .txStep) ∧
    (t.bitidx ≠ s.bitidx → i ∈ [Instr.getResponse, .rxSample, .irqEntry]) ∧
    (t.jt ≠ s.jt → i ∈ [Instr.init, .rxFirstEdge]) ∧
    (t.prev ≠ s.prev → i ∈ [Instr.getResponse, .rxFirstEdge, .rxEdge]) ∧
    (t.next ≠ s.next → i ∈ [Instr.rxFirstEdge, .rxCount, .rxEdge, .rxSample, .irqEntry]) ∧
    (t.budget ≠ s.budget → i ∈ [Instr.getResponse, .rxOvf, .rxTimeout]) ∧
    (t.tcnt ≠ s.tcnt →
      (∃ v, i = .setCounter v) ∨
        i ∈ [Instr.init, .getResponse, .tickMax, .tickShort, .txStep, .rxWait, .rxOvf, .rxTimeout, .rxFirstEdge,
          .rxCount, .rxEdge, .rxSample, .rxCollide]) ∧
    (t.top ≠ s.top → i ∈ [Instr.setShortTimeout, .rxFirstEdge]) ∧
    (t.mode ≠ s.mode → i ∈ [Instr.init, .getResponse, .setMaxTimeout, .setShortTimeout, .rxFirstEdge]) ∧
    (t.run ≠ s.run → i ∈ [Instr.init, .getResponse, .start, .stop, .rxTimeout, .rxSample, .rxComplete, .irqEntry]) ∧
    (t.flag ≠ s.flag →
      i ∈ [Instr.init, .getResponse, .clearFlag, .tickMax, .tickShort, .txStep, .rxOvf, .rxTimeout, .rxFirstEdge,
        .rxSample, .irqEntry]) ∧
    (t.ie ≠ s.ie →
      i ∈ [Instr.init, .getResponse, .enableInterrupt, .disableInterrupt, .rxFirstEdge, .rxSample, .rxComplete,
        .irqEntry]) ∧
    (t.dir ≠ s.dir → (∃ c, i = .sendCommand c) ∨ i ∈ [Instr.init, .getResponse]) ∧
    (t.out ≠ s.out → (∃ c, i = .sendCommand c) ∨ (∃ b n, i = .send b n) ∨ i ∈ [Instr.init, .txStep]) ∧
    (t.timingFault ≠ s.timingFault → i = .rxCollide) ∧
    (t.ready ≠ s.ready → i = .init)

/-! ### Top level -/

/-- 46_top_level.md section 2, `init()` (D18): what it writes; a second call changes nothing more. `ready` is the
model's own record of the call (log 32). -/
def Obligations.InitSetsTheIdleState : Prop :=
  ∀ s : State, s.hostTurn = true →
    ∃ t, exec .init s = .next t ∧ exec .init t = .next t ∧
      t = { s with
        run := false, ie := false, flag := false, mode := .max, tcnt := 0#8, jt := .none, out := false, dir := .input,
        done := false, phase := .idle, ready := true, ret := .unit }

/-- 46_top_level.md section 2, `sendCommand` stages 0 and 1 (D19), after `init()` (70_reset_and_hazards.md section 1; log 32).
The word is sent as it is, whatever its crc field (log 30). -/
def Obligations.SendCommandLaunchesTheFrame : Prop :=
  ∀ (command : BitVec 16) (s : State), s.hostTurn = true → s.ready = true → s.cfg.msbFirst = true → s.gie = true →
    s.otherIrq = false →
    exec (.sendCommand command) s =
      .next
        { s with
          cmd := command, done := false, phase := .sending, dir := .output, txSrc := .frame, txi := 0, out := true,
          txph := .winA, txcnt := s.cfg.txA, txBusy := true, ret := .unit }

/-- 43_receiver.md section 2 (D6): the arming step, called by the host or as stage 3 of `sendCommand`, which first returns
the pin to input (46_top_level.md section 2). -/
def Obligations.GetResponseArmsTheReceiver : Prop :=
  ∀ s : State,
    (s.hostTurn = true → s.ready = true → s.cfg.msbFirst = true → s.gie = true → s.otherIrq = false →
      exec .getResponse s =
        .next
          { s with
            run := true, ie := false, mode := .max, tcnt := 0#8, flag := false, budget := s.cfg.nTo,
            acc := 0x000010#24, bitidx := 0, prev := true, done := false, phase := .waitingForFirstEdge, ret := .unit }) ∧
    (s.phase = .sending → s.txBusy = false →
      exec .getResponse s =
        .next
          { s with
            dir := .input, run := true, ie := false, mode := .max, tcnt := 0#8, flag := false, budget := s.cfg.nTo,
            acc := 0x000010#24, bitidx := 0, prev := true, done := false, phase := .waitingForFirstEdge, ret := .unit })

/-- Launches that break a precondition are refused: 70_reset_and_hazards.md section 1 (`init()` first; log 32), 30_encoding.md
section 2 (MSB_FIRST; the model's for `getResponse` alone, log 15), D26 (GIE, OTHER_IRQ), 42_pulsed_output.md section 3
(bitCount). -/
def Obligations.LaunchesAreRefusedUnderABrokenPrecondition : Prop :=
  ∀ s : State, s.hostTurn = true →
    (s.ready = false →
      exec .getResponse s = .refused .notInitialised ∧ ∀ c, exec (.sendCommand c) s = .refused .notInitialised) ∧
    (s.ready = true → s.cfg.msbFirst = false →
      exec .getResponse s = .refused .msbFirstRequired ∧ ∀ c, exec (.sendCommand c) s = .refused .msbFirstRequired) ∧
    (s.ready = true → s.cfg.msbFirst = true → (s.gie = false ∨ s.otherIrq = true) →
      exec .getResponse s = .refused .interruptsNotSetUp ∧ ∀ c, exec (.sendCommand c) s = .refused .interruptsNotSetUp) ∧
    (∀ bytes n, s.otherIrq = true → exec (.send bytes n) s = .refused .interruptsNotSetUp) ∧
    (∀ bytes n, s.otherIrq = false → 8 * bytes.length < n → exec (.send bytes n) s = .refused .bitCountTooLarge)

/-- 10_state.md section 10: no call reaches the registers while the block owns them; stage 3 of `sendCommand` is the block's
own arming. The host's turn is also over while a direct `send` runs in Idle or Done, which is the model's mark `txBusy`
(log 12). -/
def Obligations.RegisterCallsAreRefusedWhileTheBlockOwnsThem : Prop :=
  ∀ s : State, s.hostTurn = false →
    (∀ i ∈ [Instr.init, .setMaxTimeout, .setShortTimeout, .start, .stop, .clearFlag, .hasOverflowed, .enableInterrupt,
        .disableInterrupt], exec i s = .refused .busy) ∧
    (∀ v, exec (.setCounter v) s = .refused .busy) ∧
    (∀ c, exec (.sendCommand c) s = .refused .busy) ∧
    (∀ bytes n, exec (.send bytes n) s = .refused .busy) ∧
    (s.phase ≠ .sending ∨ s.txBusy = true → exec .getResponse s = .refused .busy)

/-! ### The timer -/

/-- R96, the tick of the same step included. -/
def Obligations.SetCounterWritesTcnt : Prop :=
  ∀ (v : Byte) (s : State), s.hostTurn = true →
    exec (.setCounter v) s = .next { s with tcnt := v, ret := .unit } ∧
    (∀ rest, s.quiet → s.pending = false → s.calls = [0x10#8, v] :: rest →
      step s = .next { s with tcnt := v, calls := rest, ret := .unit }) ∧
    (s.run = true → s.mode = .short → s.top.toNat < v.toNat →
      exec .tickShort { s with tcnt := v } = .refused .counterAboveTop)

/-- R97: MODE and nothing else; the new overflow point is that of the next tick. -/
def Obligations.SetMaxTimeoutWritesMode : Prop :=
  ∀ s : State, s.hostTurn = true →
    ∃ t, exec .setMaxTimeout s = .next t ∧ t = { s with mode := .max, ret := .unit } ∧
      (s.run = true →
        exec .tickMax t =
          .next (if s.tcnt = 255#8 then { t with tcnt := 0#8, flag := true } else { t with tcnt := s.tcnt + 1#8 }))

/-- R98, with TOP_SHORT = TB - 1 (at most 255 by 00_scope.md section 4); TCNT above TOP may result. -/
def Obligations.SetShortTimeoutWritesModeAndTop : Prop :=
  ∀ s : State, s.hostTurn = true → s.cfg.rxOk →
    ∃ t, exec .setShortTimeout s = .next t ∧ t = { s with mode := .short, top := t.top, ret := .unit } ∧
      t.top.toNat = s.cfg.tb - 1 ∧ (s.run = true → s.cfg.tb - 1 < s.tcnt.toNat →
        exec .tickShort t = .refused .counterAboveTop)

/-- R99 and R100: RUN and nothing else, so TCNT goes on from its value, or holds. -/
def Obligations.StartAndStopWriteRun : Prop :=
  ∀ s : State, s.hostTurn = true →
    (∃ t, exec .start s = .next t ∧ t = { s with run := true, ret := .unit } ∧ exec .start t = .next t ∧
      (s.mode = .max → s.tcnt = 0#8 → exec .tickMax t = .next { t with tcnt := 1#8 })) ∧
    (∃ t, exec .stop s = .next t ∧ t = { s with run := false, ret := .unit } ∧ exec .stop t = .next t ∧
      (t.quiet → t.pending = false → t.calls = [] → step t = .next t))

/-- 40_pulse_timer.md section 3, `clearFlag()` (D35): FLAG goes to 0, but an event of the same step's tick is not lost. -/
def Obligations.ClearFlagLosesToTheTick : Prop :=
  ∀ s : State, s.hostTurn = true →
    exec .clearFlag s = .next { s with flag := false, ret := .unit } ∧
    (∀ rest, s.quiet → s.ie = false → s.run = true → s.tcnt = s.limit → s.calls = [0x15#8] :: rest →
      step s = .next { s with flag := true, tcnt := 0#8, calls := rest, ret := .unit })

/-- R102: FLAG is read and kept; a count from 0 in max-timeout mode shows it after 256 ticks and not after 255. -/
def Obligations.HasOverflowedReadsFlag : Prop :=
  (∀ s : State, s.hostTurn = true → exec .hasOverflowed s = .next { s with ret := .bit s.flag }) ∧
  (∀ s : State, s.hostTurn = true → s.quiet → s.calls = [] → s.ie = false → s.mode = .max → s.run = true →
    s.tcnt = 0#8 → s.flag = false →
    ∃ t u, RunsTo 255 s t ∧ exec .hasOverflowed t = .next { t with ret := .bit false } ∧
      RunsTo 256 s u ∧ exec .hasOverflowed u = .next { u with ret := .bit true })

/-- R103 and R104: IE and nothing else; with IE = 1 a set FLAG is a pending interrupt under GIE, with IE = 0 it can only be
polled. -/
def Obligations.InterruptEnableAndDisableWriteIe : Prop :=
  ∀ s : State, s.hostTurn = true →
    (∃ t, exec .enableInterrupt s = .next t ∧ t = { s with ie := true, ret := .unit } ∧
      (s.gie = true → t.pending = s.flag ∧ (s.tcnt = s.limit → t.ticked.pending = true))) ∧
    (∃ t, exec .disableInterrupt s = .next t ∧ t = { s with ie := false, ret := .unit } ∧
      ({ t with flag := true } : State).pending = false ∧
      exec .hasOverflowed { t with flag := true } = .next { t with flag := true, ret := .bit true })

/-- 40_pulse_timer.md section 2: one tick in either mode; the short period is TOP + 1 ticks (D7), TCNT above TOP is refused
(93_implementation_defined.md U6). -/
def Obligations.TickCountsOrWraps : Prop :=
  ∀ s : State, s.run = true →
    (s.mode = .max →
      exec .tickMax s =
        .next (if s.tcnt = 255#8 then { s with tcnt := 0#8, flag := true } else { s with tcnt := s.tcnt + 1#8 })) ∧
    (s.mode = .short → s.tcnt.toNat ≤ s.top.toNat →
      exec .tickShort s =
        .next (if s.tcnt = s.top then { s with tcnt := 0#8, flag := true } else { s with tcnt := s.tcnt + 1#8 })) ∧
    (s.mode = .short → s.top.toNat < s.tcnt.toNat → exec .tickShort s = .refused .counterAboveTop)

/-- 40_pulse_timer.md section 2: left alone, the running timer counts a tick a step and first sets FLAG L - v + 1 ticks after
it read v, L being 255 or TOP by MODE (256 - v ticks in max-timeout mode); from 0 that is its period. While RUN = 0 it
holds. -/
def Obligations.TimerPeriodIsExact : Prop :=
  ∀ s : State, s.hostTurn = true → s.quiet → s.calls = [] →
    (s.ie = false → s.run = true → s.tcnt.toNat ≤ s.limit.toNat →
      (∀ k, k ≤ s.limit.toNat - s.tcnt.toNat → RunsTo k s { s with tcnt := s.tcnt + BitVec.ofNat 8 k }) ∧
      RunsTo (s.limit.toNat - s.tcnt.toNat + 1) s { s with tcnt := 0#8, flag := true }) ∧
    (s.pending = false → s.run = false → ∀ k, RunsTo k s s)

/-! ### The command codec -/

/-- R107: the formula with the shifts, and that it is the XOR of the three nibbles of x = 2c + t. -/
def Obligations.CrcIsTheXorOfThreeNibbles : Prop :=
  ∀ (c : BitVec 11) (t : Bool) (s : State),
    ∃ (x : BitVec 12) (k : Nibble), x.toNat = 2 * c.toNat + t.toNat ∧
      k = (x ^^^ (x >>> 4) ^^^ (x >>> 8)).extractLsb' 0 4 ∧
      k = x.extractLsb' 0 4 ^^^ x.extractLsb' 4 4 ^^^ x.extractLsb' 8 4 ∧
      exec (.crc c t) s = .next { s with ret := .u4 (if s.cfg.inv then k ^^^ 0xF#4 else k) }

/-- 41_command_codec.md section 2 (D23): the frame of `fromRaw`, refused outside 0..2047; the throttle is clamped on the
integer and shifted by 48; `fromNormalized` is the scaled throttle. -/
def Obligations.ConstructorsBuildTheFrame : Prop :=
  ∀ (t : Bool) (s : State),
    (∀ c : Int, 0 ≤ c → c ≤ 2047 →
      ∃ f : BitVec 16, exec (.fromRaw c t) s = .next { s with ret := .command f } ∧
        ((commandValue f).toNat : Int) = c ∧ commandT f = t ∧
        exec (.crc (commandValue f) t) s = .next { s with ret := .u4 (commandCrc f) }) ∧
    (∀ c : Int, c < 0 ∨ 2047 < c → exec (.fromRaw c t) s = .refused .rawOutOfRange) ∧
    (∀ n : Int,
      ∃ f : BitVec 16, exec (.fromThrottle n t) s = .next { s with ret := .command f } ∧
        exec (.fromRaw (max 0 (min n 1999) + 48) t) s = .next { s with ret := .command f }) ∧
    (∀ x : RealArg, x ≠ .nan →
      ∃ (m : Nat) (f : BitVec 16), exec (.scaleToCommandMax x) s = .next { s with ret := .scaled m } ∧
        exec (.fromNormalized x t) s = .next { s with ret := .command f } ∧
        exec (.fromRaw (m + 48) t) s = .next { s with ret := .command f })

/-- R114: the crc field is the formula's; scaling is monotonic and saturating with its two fixed points; parsing a frame any
constructor returns gives back its value, and the crc of its own fields is its crc. -/
def Obligations.CodecLaws : Prop :=
  (∀ (c : Int) (t : Bool) (s : State), 0 ≤ c → c ≤ 2047 →
    ∃ (f : BitVec 16) (x : BitVec 12), exec (.fromRaw c t) s = .next { s with ret := .command f } ∧
      x.toNat = 2 * c.toNat + t.toNat ∧
      commandCrc f = (if s.cfg.inv then 0xF#4 else 0#4) ^^^ (x ^^^ (x >>> 4) ^^^ (x >>> 8)).extractLsb' 0 4) ∧
  (∀ (p q : Rat) (s : State),
    ∃ m n : Nat, exec (.scaleToCommandMax (.fin p)) s = .next { s with ret := .scaled m } ∧
      exec (.scaleToCommandMax (.fin q)) s = .next { s with ret := .scaled n } ∧
      (p ≤ q → m ≤ n) ∧ m ≤ 1999 ∧ (p ≤ 0 → m = 0) ∧ (1 ≤ p → m = 1999)) ∧
  (∀ (i : Instr) (s u : State) (f : BitVec 16),
    (∃ c t, i = .fromRaw c t) ∨ (∃ n t, i = .fromThrottle n t) ∨ (∃ x t, i = .fromNormalized x t) ∨
      (∃ c t, i = .fromSpecial c t) →
    exec i s = .next u → u.ret = .command f →
    exec (.getRaw f) u = .next { u with ret := .u11 (commandValue f) } ∧
      exec (.crc (commandValue f) (commandT f)) u = .next { u with ret := .u4 (commandCrc f) })

/-- 41_command_codec.md section 2 (D23): a NaN is refused, the infinities saturate, SCALE_ROUND fixes the integers; between k
and k + 1 it goes by the cut the configuration gives there, and truncates without one. That SCALE_ROUND is given as cuts is
the model's form of it (log 20). -/
def Obligations.ScaleRoundsAsConfigured : Prop :=
  ∀ s : State,
    exec (.scaleToCommandMax .nan) s = .refused .nanOperand ∧
    (∀ t, exec (.fromNormalized .nan t) s = .refused .nanOperand) ∧
    exec (.scaleToCommandMax .posInf) s = .next { s with ret := .scaled 1999 } ∧
    exec (.scaleToCommandMax .negInf) s = .next { s with ret := .scaled 0 } ∧
    (∀ k : Nat, k ≤ 1999 → exec (.scaleToCommandMax (.fin (mkRat k 1999))) s = .next { s with ret := .scaled k }) ∧
    (s.cfg.scaleCuts = [] → ∀ q : Rat, 0 ≤ q → q ≤ 1 →
      exec (.scaleToCommandMax (.fin q)) s = .next { s with ret := .scaled (q * 1999).floor.toNat }) ∧
    ∀ (k : Nat) (q : Rat), k < 1999 → (k : Rat) < q * 1999 → q * 1999 < (k : Rat) + 1 →
      (s.cfg.scaleCuts[k]? = none → exec (.scaleToCommandMax (.fin q)) s = .next { s with ret := .scaled k }) ∧
      (∀ cut, s.cfg.scaleCuts[k]? = some cut → 0 < cut.den →
        (q * 1999 - k < (cut.num : Rat) / cut.den →
          exec (.scaleToCommandMax (.fin q)) s = .next { s with ret := .scaled k }) ∧
        (q * 1999 - k = (cut.num : Rat) / cut.den →
          exec (.scaleToCommandMax (.fin q)) s = .next { s with ret := .scaled (if cut.down then k else k + 1) }) ∧
        ((cut.num : Rat) / cut.den < q * 1999 - k →
          exec (.scaleToCommandMax (.fin q)) s = .next { s with ret := .scaled (k + 1) }))

/-- R112: every special command 0..47 is the raw command of its number. -/
def Obligations.FromSpecialIsTheRawCommand : Prop :=
  ∀ (c : BitVec 6) (t : Bool) (s : State), c.toNat < 48 →
    ∃ f : BitVec 16, exec (.fromSpecial c t) s = .next { s with ret := .command f } ∧
      exec (.fromRaw c.toNat t) s = .next { s with ret := .command f } ∧ (commandValue f).toNat = c.toNat

/-- R113: the 11 bits of byte 0 and the top three of byte 1. -/
def Obligations.GetRawJoinsTheTwoBytes : Prop :=
  ∀ (f : BitVec 16) (s : State),
    ∃ c : BitVec 11, exec (.getRaw f) s = .next { s with ret := .u11 c } ∧
      c.toNat = (hiByte f).toNat * 8 + (loByte f).toNat / 32 ∧ c = f.extractLsb' 5 11

/-! ### The encoder -/

/-- 42_pulsed_output.md section 3, the call step of `send` (that PHASE stays as it is, and TXI of an empty send: log 12,
log 14). DIR is whatever it was (log 31). -/
def Obligations.SendLaunchesThePulses : Prop :=
  ∀ (bytes : List Byte) (n : Nat) (s : State), s.hostTurn = true → s.otherIrq = false → n ≤ 8 * bytes.length →
    exec (.send bytes n) s =
      .next
        (if n = 0 then { s with txSrc := .buffer bytes 0, txi := 0, out := false, ret := .unit }
         else
          { s with
            txSrc := .buffer bytes n, txi := 0, out := true, txph := .winA, txcnt := s.cfg.txA, txBusy := true,
            ret := .unit })

/-- 42_pulsed_output.md section 3, the cycle step (D36). A timer left running counts in those cycles d that are ticks: in none
with RUN = 0, else as the input of the cycle says (40_pulse_timer.md section 1; log 13); a count above TOP is refused (U6), and
so is an interrupt (U23; log 16). `c` is the state with the cycle's count and its input spent. -/
def Obligations.EncoderCycle : Prop :=
  ∀ s : State, s.txBusy = true →
    ∃ d : Bool, (s.run = false → d = false) ∧ (∀ b rest, s.run = true → s.ticksIn = b :: rest → d = b) ∧
      (d = true → s.overTop = true → exec .txStep s = .refused .counterAboveTop) ∧
      ∀ c : State,
        c =
          { s with
            tcnt := if d then if s.tcnt = s.limit then 0#8 else s.tcnt + 1#8 else s.tcnt
            flag := s.flag || d && decide (s.tcnt = s.limit)
            ticksIn := if s.run then s.ticksIn.tail else s.ticksIn
            freeCount := if s.run then s.freeCount + 1 else s.freeCount } →
        (d = false ∨ s.overTop = false) →
        (c.pending = true → exec .txStep s = .refused .interruptDuringSend) ∧
        (c.pending = false →
          (1 < s.txcnt → exec .txStep s = .next { c with txcnt := s.txcnt - 1 }) ∧
          (s.txcnt ≤ 1 → s.txph = .winA →
            exec .txStep s =
              .next { c with out := if s.txBit = false then false else s.out, txph := .winB, txcnt := s.cfg.txB }) ∧
          (s.txcnt ≤ 1 → s.txph = .winB →
            exec .txStep s = .next { c with out := false, txph := .winC, txcnt := s.cfg.txC }) ∧
          (s.txcnt ≤ 1 → s.txph = .winC → s.txi + 1 ≠ s.txBits →
            exec .txStep s = .next { c with txi := s.txi + 1, out := true, txph := .winA, txcnt := s.cfg.txA }) ∧
          (s.txcnt ≤ 1 → s.txph = .winC → s.txi + 1 = s.txBits →
            exec .txStep s = .next { c with txi := s.txBits, txBusy := false }))

/-- R119: the pulse of one bit on the line, cycle by cycle, and that every bit lasts TX_A + TX_B + TX_C cycles, no interrupt
coming in between (R117). -/
def Obligations.OneBitIsOnePulse : Prop :=
  ∀ s : State, s.cfg.ok → s.quiet → s.undisturbed (bitCycles s.cfg) → s.dir = .output → s.txBusy = true →
    s.txph = .winA → s.txcnt = s.cfg.txA → s.out = true → s.txi < s.txBits → (s.phase.isHosts = true ∨ s.phase = .sending) →
    (∀ j, j < s.cfg.txA + s.cfg.txB + s.cfg.txC →
      ∃ u, RunsTo j s u ∧ u.pinRead = decide (j < s.cfg.txA + if s.txBit then s.cfg.txB else 0)) ∧
    ∃ u, RunsTo (s.cfg.txA + s.cfg.txB + s.cfg.txC) s u ∧ u.txi = s.txi + 1 ∧
      u.pinRead = decide (s.txi + 1 < s.txBits) ∧ u.txBusy = decide (s.txi + 1 < s.txBits)

/-- 42_pulsed_output.md sections 2 and 3 (the closed form is the spec's inference): the whole waveform of a `send` of n bits,
on any buffer in either bit order, no interrupt coming in between, and how it finishes: OUT low, DIR as it was, TXI =
bitCount. PHASE stays as it is in a direct `send` too (log 12). A timer left running in max-timeout mode has counted m times
in the first j cycles, one count every PRESCALE cycles where the input of its ticks is that of a clock of PRESCALE cycles a tick
(40_pulse_timer.md section 1; log 13); one that is stopped has not. -/
def Obligations.WaveformClosedForm : Prop :=
  ∀ (s : State) (n : Nat), s.cfg.ok → s.quiet → s.undisturbed (n * bitCycles s.cfg) → s.txBusy = true →
    (s.phase.isHosts = true ∨ s.phase = .sending) → s.txBits = n → 1 ≤ n → s.txi = 0 → s.txph = .winA →
    s.txcnt = s.cfg.txA → s.out = true →
    (∀ j, j < n * bitCycles s.cfg →
      ∃ u, RunsTo j s u ∧ u.dir = s.dir ∧ u.txBusy = true ∧
        u.out = waveLevel s.cfg (fun i => bitOf s.cfg.msbFirst s.txBuf i) j) ∧
    (s.run = true → s.mode = .max → ∀ phase rest,
      s.ticksIn = tickCycles s.cfg.prescale phase (n * bitCycles s.cfg) ++ rest → ∀ j, j ≤ n * bitCycles s.cfg →
      ∃ m u, RunsTo j s u ∧ u.tcnt = s.tcnt + BitVec.ofNat 8 m ∧ u.flag = (s.flag || decide (256 ≤ s.tcnt.toNat + m)) ∧
        j < (m + 1) * s.cfg.prescale ∧ m * s.cfg.prescale < j + s.cfg.prescale) ∧
    ∃ u, RunsTo (n * bitCycles s.cfg) s u ∧ u.out = false ∧ u.dir = s.dir ∧ u.txi = n ∧ u.txBusy = false ∧
      u.phase = s.phase ∧
      (s.run = false →
        u = { s with txi := n, txBusy := false, out := false, txph := .winC, txcnt := u.txcnt })

/-- 46_top_level.md section 2, stages 1 to 3 of a `sendCommand` call (D19, D32): one call step, 16 bits of frame, one arming
step, after which the receiver waits with the pin an input; no interrupt comes in between. -/
def Obligations.SendCommandEndsArmed : Prop :=
  ∀ (s : State) (command : BitVec 16) (rest : List (List Byte)), s.cfg.ok → s.quiet → s.hostTurn = true → s.ready = true →
    s.undisturbed (1 + 16 * bitCycles s.cfg) → s.cfg.msbFirst = true → s.gie = true → s.otherIrq = false →
    s.calls = encode (.sendCommand command) :: rest →
    ∃ u, RunsTo (1 + 16 * (s.cfg.txA + s.cfg.txB + s.cfg.txC) + 1) s u ∧ u.phase = .waitingForFirstEdge ∧
      u.cmd = command ∧ u.dir = .input ∧ u.out = false ∧ u.done = false ∧ u.acc = 0x000010#24 ∧ u.bitidx = 0 ∧
      u.tcnt = 0#8 ∧ u.budget = s.cfg.nTo ∧ u.run = true ∧ u.mode = .max ∧ u.ie = false ∧ u.flag = false ∧
      u.prev = true ∧ u.calls = rest ∧ u.lineIn = s.lineIn

/-! ### The receiver, step by step -/

/-- R129 and R130: waiting counts the timer and the budget of overflows. -/
def Obligations.WaitingCountsTheTimer : Prop :=
  ∀ s : State, s.phase = .waitingForFirstEdge → s.pinRead = true →
    (s.tcnt ≠ 255#8 → exec .rxWait s = .next { s.nextLevel with tcnt := s.tcnt + 1#8 }) ∧
    (s.tcnt = 255#8 → 1 < s.budget →
      exec .rxOvf s = .next { s.nextLevel with tcnt := 0#8, flag := false, budget := s.budget - 1 })

/-- 43_receiver.md section 3, the timeout (D16), and 60_exceptions.md section 1, what raising an Error does: RESP, DONE and
PHASE, with nothing saved. -/
def Obligations.TimeoutRaisesResponseTimeout : Prop :=
  ∀ s : State, s.phase = .waitingForFirstEdge → s.pinRead = true → s.tcnt = 255#8 → s.budget = 1 →
    ∃ r : BitVec 16, hiByte r = 0x80#8 ∧ loByte r = s.cfg.errCode.responseTimeout ∧
      exec .rxTimeout s =
        .next
          { s.nextLevel with
            tcnt := 0#8, flag := false, budget := 0, run := false, resp := r, done := true, phase := .done,
            ret := .response r }

/-- 43_receiver.md section 3, the first-edge step (D7, D13). TCNT is unspecified from here on: the value v is free (log 9). -/
def Obligations.FirstEdgeStartsSampling : Prop :=
  ∀ s : State, s.phase = .waitingForFirstEdge → s.pinRead = false →
    ∃ v, exec .rxFirstEdge s =
      .next
        { s.nextLevel with
          mode := .short, top := BitVec.ofNat 8 (s.cfg.tb - 1), next := s.cfg.tb + s.cfg.th, flag := false,
          jt := .readBit, ie := true, prev := false, phase := .sampling, tcnt := v, freeCount := s.freeCount + 1 }

/-- R133 and R134: the count step and the edge step. TCNT is unspecified while sampling: the value v is free (log 9). -/
def Obligations.CountAndEdgeSteps : Prop :=
  ∀ s : State, s.phase = .sampling →
    (s.pinRead = s.prev → 1 < s.next →
      ∃ v, exec .rxCount s = .next { s.nextLevel with next := s.next - 1, tcnt := v, freeCount := s.freeCount + 1 }) ∧
    (s.pinRead ≠ s.prev → s.next ≠ 1 →
      ∃ v, exec .rxEdge s =
        .next { s.nextLevel with prev := s.pinRead, next := s.cfg.th, tcnt := v, freeCount := s.freeCount + 1 })

/-- 43_receiver.md section 4 (R135, and R136 for the completion, whose stop of the timer the spec marks as its own choice,
D16): the pin through C into the low end of ACC, old ACC[23] into C; completion in the same step exactly when C is 1, which
is so on the 20th sample and no other. TCNT is unspecified while sampling: the value v is free (log 9). -/
def Obligations.SampleShiftsThePin : Prop :=
  ∀ s : State, s.phase = .sampling → s.pinRead = s.prev → s.next = 1 → s.jt = .readBit → s.ie = true → s.gie = true →
    ∃ v, (s.acc.getLsbD 23 = false →
        exec .rxSample s =
          .next
            { s.nextLevel with
              carry := false, acc := s.acc.extractLsb' 0 23 ++ BitVec.ofBool s.pinRead, bitidx := s.bitidx + 1,
              next := s.cfg.tb, flag := false, tcnt := v, freeCount := s.freeCount + 1 }) ∧
      (s.acc.getLsbD 23 = true →
        ∃ a : BitVec 24, a = s.acc.extractLsb' 0 23 ++ BitVec.ofBool s.pinRead ∧
          exec .rxSample s =
            .next
              { s.nextLevel with
                carry := true, acc := a, bitidx := s.bitidx + 1, next := s.cfg.tb, flag := false, tcnt := v,
                freeCount := s.freeCount + 1, ie := false, run := false, resp := decodeResponse s.cfg a, done := true,
                phase := .done, ret := .response (decodeResponse s.cfg a) }) ∧
      (s.Inv → (s.acc.getLsbD 23 = true ↔ s.bitidx = 19))

/-- 43_receiver.md section 4, completion (D16). -/
def Obligations.CompletionDecodesAcc : Prop :=
  ∀ s : State, s.phase = .sampling → s.carry = true →
    exec .rxComplete s =
      .next
        { s with
          ie := false, run := false, resp := decodeResponse s.cfg s.acc, done := true, phase := .done,
          ret := .response (decodeResponse s.cfg s.acc) }

/-- 43_receiver.md section 4, the collision (D15): TIMING_FAULT is set and no step goes on from there; and a sample step with
its interrupt masked (93_implementation_defined.md U2, log 18) or with JT = None (U21) does not go on either. -/
def Obligations.CollisionAndMaskedSamplerStop : Prop :=
  ∀ s : State, s.phase = .sampling → s.next = 1 →
    (s.pinRead ≠ s.prev →
      ∃ v t, t = { s.nextLevel with timingFault := true, tcnt := v, freeCount := s.freeCount + 1 } ∧
        exec .rxCollide s = .next t ∧ (s.resets.head? ≠ some 0 → step t = .fault .timing)) ∧
    (s.pinRead = s.prev → (s.ie = false ∨ s.gie = false) → exec .rxSample s = .fault .samplerMasked) ∧
    (s.pinRead = s.prev → s.ie = true → s.gie = true → s.jt = .none → exec .rxSample s = .refused .irqWithoutTarget)

/-- 60_exceptions.md section 2 (D2), in every phase; that an interrupt of the host's turn (Idle or Done) runs the sampler's body
too is the model's deduction (log 11). Entry clears FLAG, saves nothing, changes no mask, and runs the routine of JT to its end;
the 20th sample leaves through completion instead of returning. JT = None is refused (U21). -/
def Obligations.InterruptEntryRunsTheSampler : Prop :=
  ∀ s : State, s.flag = true → s.ie = true → s.gie = true →
    (s.jt = .readBit → s.acc.getLsbD 23 = false →
      exec .irqEntry s =
        .next
          { s.nextLevel with
            flag := false, carry := false, acc := s.acc.extractLsb' 0 23 ++ BitVec.ofBool s.pinRead,
            bitidx := s.bitidx + 1, next := s.cfg.tb }) ∧
    (s.jt = .readBit → s.acc.getLsbD 23 = true →
      ∃ a : BitVec 24, a = s.acc.extractLsb' 0 23 ++ BitVec.ofBool s.pinRead ∧
        exec .irqEntry s =
          .next
            { s.nextLevel with
              flag := false, carry := true, acc := a, bitidx := s.bitidx + 1, next := s.cfg.tb, ie := false,
              run := false, resp := decodeResponse s.cfg a, done := true, phase := .done,
              ret := .response (decodeResponse s.cfg a) }) ∧
    (s.jt = .none → exec .irqEntry s = .refused .irqWithoutTarget)

/-! ### The receiver, whole runs -/

/-- 20_memory.md section 7 and 43_receiver.md section 4 (D37): at every tick of a receive exactly one of the tick rules applies,
and a step takes it; with the interrupt enabled as a launch requires, the step goes on. -/
def Obligations.ExactlyOneReceiverRuleApplies : Prop :=
  ∀ s : State, s.Inv → s.quiet → (s.phase = .waitingForFirstEdge ∨ s.phase = .sampling) →
    ∃ i ∈ [Instr.rxWait, .rxOvf, .rxTimeout, .rxFirstEdge, .rxCount, .rxEdge, .rxSample, .rxCollide],
      step s = exec i s ∧ (s.gie = true → s.goesOn) ∧
      ∀ j ∈ [Instr.rxWait, .rxOvf, .rxTimeout, .rxFirstEdge, .rxCount, .rxEdge, .rxSample, .rxCollide],
        exec j s ≠ .refused .ruleNotEnabled → j = i

/-- R126: the transitions of PHASE are those of the table, row by row, each exactly on its event. -/
def Obligations.PhaseTransitionsAreThoseOfTheTable : Prop :=
  ∀ s t : State, s.Inv → s.resets.head? ≠ some 0 → step s = .next t →
    ((s.phase = .idle ∨ s.phase = .done) →
      (∀ b rest r, s.hostTurn = true → s.pending = false → s.calls = b :: rest →
        (decode b = .ok (.init, r) → t.phase = .idle) ∧
        (∀ c, decode b = .ok (.sendCommand c, r) → t.phase = .sending) ∧
        (decode b = .ok (.getResponse, r) → t.phase = .waitingForFirstEdge)) ∧
      (t.phase = s.phase ∨
        ∃ b rest i r, s.hostTurn = true ∧ s.pending = false ∧ s.calls = b :: rest ∧ decode b = .ok (i, r) ∧
          (i = .init ∨ (∃ c, i = .sendCommand c) ∨ i = .getResponse))) ∧
    (s.phase = .sending → t.phase = if s.txBusy then .sending else .waitingForFirstEdge) ∧
    (s.phase = .waitingForFirstEdge →
      t.phase = if s.pinRead = false then .sampling else if s.tcnt = 255#8 ∧ s.budget = 1 then .done else .waitingForFirstEdge) ∧
    (s.phase = .sampling →
      (t.phase = if s.pinRead = s.prev ∧ s.next = 1 ∧ s.acc.getLsbD 23 = true then .done else .sampling) ∧
      (t.timingFault = true ↔ s.pinRead ≠ s.prev ∧ s.next = 1))

/-- 43_receiver.md section 3: the timeout comes at the (N_TO × 256)-th tick after arming, every tick so far having read 1, and
not before; ACC keeps its armed value. -/
def Obligations.TimeoutComesAtTheExactTick : Prop :=
  ∀ (s : State) (rest : List Level), s.cfg.ok → s.quiet → s.phase = .waitingForFirstEdge → s.tcnt = 0#8 →
    s.budget = s.cfg.nTo → s.dir = .input → s.lineIn = List.replicate (256 * s.cfg.nTo) true ++ rest →
    (∀ k, k < 256 * s.cfg.nTo → ∃ u, RunsTo k s u ∧ u.phase = .waitingForFirstEdge) ∧
    ∃ u, RunsTo (256 * s.cfg.nTo) s u ∧ u.phase = .done ∧ u.done = true ∧
      hiByte u.resp = 0x80#8 ∧ loByte u.resp = s.cfg.errCode.responseTimeout ∧ u.acc = s.acc ∧ u.run = false ∧
      u.lineIn = rest

/-- 43_receiver.md section 5, 20_memory.md section 2 and 70_reset_and_hazards.md section 3: an ESC that sends the start bit and
20 cells of exactly TB ticks is received whole, whatever the 20 levels: the receive ends at the tick 20 TB + TH after the
first edge, ACC holds the levels, the first in bit 19, and RESP is their decoding. And clock recovery (70_reset_and_hazards.md
section 2): the same levels in cells of n ticks, slower or faster than TB, are received whole as long as no level lasts more
than M cells, of M cells the sample of each falling inside it, and an edge after m of them falling before the next sample is
due and after the one before. -/
def Obligations.IdealResponseIsReceived : Prop :=
  ∀ (s : State) (h : Nat) (r : BitVec 20) (rest : List Level), s.Inv → s.quiet → s.gie = true →
    s.phase = .waitingForFirstEdge → s.tcnt = 0#8 → s.budget = s.cfg.nTo → s.dir = .input → h < 256 * s.cfg.nTo →
    (s.lineIn = List.replicate h true ++ cells s.cfg.tb (false :: dataLevels r) ++ rest →
      ∃ v u, RunsTo (h + 20 * s.cfg.tb + s.cfg.th) s v ∧ v.phase = .sampling ∧ v.bitidx = 19 ∧
        RunsTo (h + 20 * s.cfg.tb + s.cfg.th + 1) s u ∧ u.phase = .done ∧ u.done = true ∧ u.acc = r.setWidth 24 ∧
        u.resp = decodeResponse s.cfg (r.setWidth 24) ∧ u.ie = false ∧ u.run = false) ∧
    ∀ n M : Nat, 1 ≤ M →
      (∀ m, 1 ≤ m → m ≤ M → m * n < m * s.cfg.tb + s.cfg.th ∧ m * s.cfg.tb + s.cfg.th < m * n + s.cfg.tb) →
      (∀ i, i + M < 21 → ∃ k, k < M ∧ (false :: dataLevels r)[i + k]? ≠ (false :: dataLevels r)[i + k + 1]?) →
      s.lineIn = List.replicate h true ++ cells n (false :: dataLevels r) ++ rest →
      ∃ k u, k ≤ h + 21 * n ∧ RunsTo k s u ∧ u.phase = .done ∧ u.done = true ∧ u.acc = r.setWidth 24 ∧
        u.resp = decodeResponse s.cfg (r.setWidth 24) ∧ u.ie = false ∧ u.run = false

/-- 43_receiver.md section 5 (C7): a line that stays at one level does not hang the receive. From any tick of sampling it ends
NEXT + (19 - BITIDX) TB ticks later. -/
def Obligations.HeldLevelCompletes : Prop :=
  ∀ (s : State) (rest : List Level), s.Inv → s.quiet → s.gie = true → s.phase = .sampling → s.dir = .input →
    s.lineIn = List.replicate (s.next + (19 - s.bitidx) * s.cfg.tb) s.prev ++ rest →
    ∃ u, RunsTo (s.next + (19 - s.bitidx) * s.cfg.tb) s u ∧ u.phase = .done ∧ u.bitidx = 20 ∧ u.lineIn = rest

/-- 43_receiver.md section 5 (the spec's inference): a line whose transitions come at most TH - 1 ticks apart is never sampled,
for however long it goes on. -/
def Obligations.NoisyLineIsNeverSampled : Prop :=
  ∀ (s : State) (gaps : List Nat) (rest : List Level), s.Inv → s.quiet → s.phase = .sampling → s.dir = .input →
    s.next ≠ 1 → (∀ g ∈ gaps, 1 ≤ g ∧ g ≤ s.cfg.th - 1) → s.lineIn = alternating (!s.prev) gaps ++ rest →
    ∃ u, RunsTo gaps.sum s u ∧ u.phase = .sampling ∧ u.acc = s.acc ∧ u.bitidx = s.bitidx ∧ u.timingFault = false ∧
      u.lineIn = rest

/-! ### The decoder -/

/-- R145: whole word, byte by byte with the carry between bytes, and bit by bit. -/
def Obligations.UnshiftIsVXorHalfV : Prop :=
  ∀ (v : BitVec 24) (s : State),
    ∃ g : BitVec 24, exec (.unshift v) s = .next { s with ret := .u24 g } ∧ g = v ^^^ (v >>> 1) ∧
      (∀ i, i < 23 → g.getLsbD i = (v.getLsbD i != v.getLsbD (i + 1))) ∧ g.getLsbD 23 = v.getLsbD 23 ∧
      ∀ b2 b1 b0 : Byte, v = b2 ++ b1 ++ b0 →
        g = (b2 ^^^ (b2 >>> 1)) ++ (b1 ^^^ ((b1 >>> 1) ||| ((b2 &&& 1#8) <<< 7))) ++
          (b0 ^^^ ((b0 >>> 1) ||| ((b1 &&& 1#8) <<< 7)))

/-- R146: four symbols, most significant first; bits 23:20 are not looked at. -/
def Obligations.SplitTakesFiveBitsEach : Prop :=
  ∀ (g : BitVec 24) (s : State),
    ∃ s3 s2 s1 s0 : Symbol, exec (.split g) s = .next { s with ret := .symbols s3 s2 s1 s0 } ∧
      g.extractLsb' 0 20 = s3 ++ s2 ++ s1 ++ s0 ∧
      s3.toNat = g.toNat / 2 ^ 15 % 32 ∧ s2.toNat = g.toNat / 2 ^ 10 % 32 ∧ s1.toNat = g.toNat / 2 ^ 5 % 32 ∧
      s0.toNat = g.toNat % 32

/-- 44_decoder.md section 2, the GCR table of any configuration: the lookup; 16 symbols for 16 nibbles, one each; 0xFF for the
other 16; and the source's one entry. -/
def Obligations.GcrTableIsABijectionOnItsValidSymbols : Prop :=
  ∀ s : State, s.cfg.ok →
    (∀ sym : Symbol, exec (.gcrDecode sym) s = .next { s with ret := .u8 (s.cfg.gcrDecode.getD sym.toNat 0xFF#8) }) ∧
    (∀ n : Nibble, ∃ sym : Symbol, exec (.gcrDecode sym) s = .next { s with ret := .u8 (n.setWidth 8) } ∧
      ∀ sym' : Symbol, exec (.gcrDecode sym') s = .next { s with ret := .u8 (n.setWidth 8) } → sym' = sym) ∧
    (∀ sym : Symbol, exec (.gcrDecode sym) s = .next { s with ret := .u8 0xFF#8 } ∨
      ∃ n : Nibble, exec (.gcrDecode sym) s = .next { s with ret := .u8 (n.setWidth 8) }) ∧
    exec (.gcrDecode 0b11001#5) s = .next { s with ret := .u8 0#8 }

/-- 44_decoder.md section 2, steps 4 and 5 and the error Response (D10, D11). -/
def Obligations.ChecksumAndPacking : Prop :=
  ∀ s : State,
    (∀ n3 n2 n1 n0 : Nibble,
      ∃ k : Nibble, exec (.checksum n3 n2 n1 n0) s = .next { s with ret := .u4 k } ∧ k = n3 ^^^ n2 ^^^ n1 ^^^ n0 ^^^ 0xF#4 ∧
        (k = 0#4 ↔ n0 = (n3 ^^^ n2 ^^^ n1) ^^^ 0xF#4)) ∧
    (∀ n3 n2 n1 : Nibble,
      exec (.fromNibbles n3 n2 n1) s = .next { s with ret := .response (0#4 ++ n3 ++ n2 ++ n1) }) ∧
    (∀ e : Error, e ≠ .none →
      ∃ r : BitVec 16, exec (.fromError e) s = .next { s with ret := .response r } ∧ hiByte r = 0x80#8 ∧
        loByte r = errorCode s.cfg e)

/-- 44_decoder.md sections 1 and 2 (D12): the pipeline, and which error it reports: the most significant invalid symbol's, then
the checksum's; there is no partial success. The state is not read beyond the configuration. -/
def Obligations.DecodeReportsTheFirstError : Prop :=
  ∀ (v : BitVec 24) (s : State) (s3 s2 s1 s0 : Symbol), s.cfg.ok →
    (v ^^^ (v >>> 1)).extractLsb' 0 20 = s3 ++ s2 ++ s1 ++ s0 →
    ∃ r : BitVec 16, exec (.decode v) s = .next { s with ret := .response r } ∧
      (gcrRom s.cfg s3 = 0xFF#8 → r = respOfError s.cfg .badDecodeFirstNibble) ∧
      (gcrRom s.cfg s3 ≠ 0xFF#8 → gcrRom s.cfg s2 = 0xFF#8 → r = respOfError s.cfg .badDecodeSecondNibble) ∧
      (gcrRom s.cfg s3 ≠ 0xFF#8 → gcrRom s.cfg s2 ≠ 0xFF#8 → gcrRom s.cfg s1 = 0xFF#8 →
        r = respOfError s.cfg .badDecodeThirdNibble) ∧
      (gcrRom s.cfg s3 ≠ 0xFF#8 → gcrRom s.cfg s2 ≠ 0xFF#8 → gcrRom s.cfg s1 ≠ 0xFF#8 → gcrRom s.cfg s0 = 0xFF#8 →
        r = respOfError s.cfg .badDecodeFourthNibble) ∧
      ∀ n3 n2 n1 n0 : Nibble, gcrRom s.cfg s3 = n3.setWidth 8 → gcrRom s.cfg s2 = n2.setWidth 8 →
        gcrRom s.cfg s1 = n1.setWidth 8 → gcrRom s.cfg s0 = n0.setWidth 8 →
        r = if n3 ^^^ n2 ^^^ n1 ^^^ n0 = 0xF#4 then 0#4 ++ n3 ++ n2 ++ n1 else respOfError s.cfg .badChecksum

/-- 44_decoder.md section 3 (the spec's inference): whatever the table, the 20 raw levels an ESC sends for three data nibbles
(`escLevels`, the encoder of that section) unshift to its GCR value and decode to those nibbles; no other raw value does; and
every raw value that is not of that kind decodes to an error. -/
def Obligations.DecodeInvertsTheEsc : Prop :=
  ∀ cfg : Config, cfg.ok →
    (∀ n3 n2 n1 : Nibble,
      (∀ s : State, s.cfg = cfg →
        exec (.unshift ((escLevels cfg n3 n2 n1).setWidth 24)) s =
          .next { s with ret := .u24 ((escValue cfg n3 n2 n1).setWidth 24) } ∧
        exec (.decode ((escLevels cfg n3 n2 n1).setWidth 24)) s =
          .next { s with ret := .response (0#4 ++ n3 ++ n2 ++ n1) }) ∧
      ∀ r : BitVec 20, decodeResponse cfg (r.setWidth 24) = 0#4 ++ n3 ++ n2 ++ n1 → r = escLevels cfg n3 n2 n1) ∧
    (∀ r : BitVec 20,
      (∃ n3 n2 n1 : Nibble, r = escLevels cfg n3 n2 n1) ∨
      ∃ e ∈ [Error.badDecodeFirstNibble, .badDecodeSecondNibble, .badDecodeThirdNibble, .badDecodeFourthNibble,
        .badChecksum], decodeResponse cfg (r.setWidth 24) = respOfError cfg e)

/-! ### The Response queries -/

/-- R157, R159, R160, R161, R162 and R166, on all 65536 values. -/
def Obligations.ResponseQueriesReadTheirFields : Prop :=
  ∀ (r : BitVec 16) (s : State),
    exec (.isError r) s = .next { s with ret := .bit (r.getLsbD 15) } ∧
    exec (.getExponent r) s = .next { s with ret := .u3 (r.extractLsb' 9 3) } ∧
    (∃ b : BitVec 9, exec (.getBase r) s = .next { s with ret := .u9 b } ∧
      b = (if s.cfg.edtSupport then 1#1 ++ loByte r else r.extractLsb' 8 1 ++ loByte r) ∧
      ∃ p : BitVec 16, exec (.getPeriodMicros r) s = .next { s with ret := .u16 p } ∧
        p.toNat = b.toNat * 2 ^ (r.toNat / 2 ^ 9 % 8)) ∧
    exec (.isStopped r) s = .next { s with ret := .bit (decide (hiByte r = 0x0F#8 ∧ loByte r = 0xFF#8)) } ∧
    exec (.getTelemetryValue r) s = .next { s with ret := .u8 (loByte r) }

/-- 45_response.md sections 2 to 4 (D9, D25, D29, D33): getError, isTelemetry, getTelemetryType and getRPM, and where they are
refused. RPM_ROUND's value m is the exact one where the configuration says so, else free within its bound (log 21). -/
def Obligations.ErrorTelemetryAndRpmQueries : Prop :=
  ∀ (r : BitVec 16) (s : State),
    (r.getLsbD 15 = false → exec (.getError r) s = .next { s with ret := .error .none }) ∧
    (∀ e : Error, s.cfg.errOk → r.getLsbD 15 = true → errorCode s.cfg e = loByte r →
      exec (.getError r) s = .next { s with ret := .error e }) ∧
    (r.getLsbD 15 = true → (∀ e : Error, errorCode s.cfg e ≠ loByte r) →
      exec (.getError r) s = .refused .unknownErrorCode) ∧
    exec (.isTelemetry r) s =
      .next { s with ret := .bit (decide (s.cfg.edtSupport = true ∧ r.getLsbD 15 = false ∧ r.getLsbD 8 = false)) } ∧
    exec (.getTelemetryType r) s =
      .next { s with ret := .telemType (r.extractLsb' 9 3) (s.cfg.telemTag.lookup (r.extractLsb' 9 3)) } ∧
    (∀ polePairs p : Nat,
      p = (if s.cfg.edtSupport then 256 + r.toNat % 256 else r.toNat % 512) * 2 ^ (r.toNat / 2 ^ 9 % 8) →
      (1 ≤ polePairs → 1 ≤ p →
        ∃ q m : Rat, exec (.getRPM r polePairs) s = .next { s with ret := .rpm q m } ∧ q * (polePairs * p) = 60000000 ∧
          m - q < 1 ∧ q - m < 1 ∧ (s.cfg.rpmRound = .exact → m = q)) ∧
      ((polePairs = 0 ∨ p = 0) → exec (.getRPM r polePairs) s = .refused .zeroDivisor))

/-- 45_response.md section 5 (the spec's inference), the six laws. -/
def Obligations.ResponseLaws : Prop :=
  ∀ (edt : Bool) (cfg : Config), cfg.errOk →
    (∀ r : BitVec 16,
      (respClassOf edt r = .error (loByte r) ↔ respIsError r = true) ∧
      (respClassOf edt r = .stopped ↔ respIsError r = false ∧ respIsStopped r = true) ∧
      ((∃ tag value, respClassOf edt r = .telemetry tag value) ↔
        respIsError r = false ∧ respIsStopped r = false ∧ respIsTelemetry edt r = true) ∧
      ((∃ e b, respClassOf edt r = .period e b) ↔
        respIsError r = false ∧ respIsStopped r = false ∧ respIsTelemetry edt r = false)) ∧
    (∀ r : BitVec 16, (respPeriod edt r).toNat ≤ 65408) ∧
    (∀ n3 n2 n1 : Nibble, respIsError (respOfNibbles n3 n2 n1) = false ∧
      (hiByte (respOfNibbles n3 n2 n1)).toNat < 16) ∧
    (∀ e : Error, respIsError (respOfError cfg e) = true ∧ errorOfCode cfg (loByte (respOfError cfg e)) = some e) ∧
    (∀ r : BitVec 16, respIsStopped r = true → (respPeriod edt r).toNat = 65408) ∧
    (∀ (r : BitVec 16) (e : BitVec 3) (b : BitVec 9), respClassOf true r = .period e b →
      respBase true r = r.extractLsb' 0 9)

/-! ### The words of the formats -/

/-- 30_encoding.md sections 2 and 5: a CMD16 word by its class, with its own crc checked; a RESP16 word by its class in the
order D33 gives; an ERR8 word by the code of the configuration. That reading a word writes nothing but the answer is the
model's (log 3). -/
def Obligations.FormatWordsAreReadByClass : Prop :=
  ∀ s : State,
    (∀ (c : BitVec 5) (t : Bool) (k : Nibble),
      exec (.cmd16Special0 c t k) s =
        .next { s with ret := .commandWord (.special (0#6 ++ c)) t k (k == crc4 s.cfg.inv (0#6 ++ c) t) }) ∧
    (∀ (c : BitVec 4) (t : Bool) (k : Nibble),
      exec (.cmd16Special32 c t k) s =
        .next
          { s with ret := .commandWord (.special (0b0000010#7 ++ c)) t k (k == crc4 s.cfg.inv (0b0000010#7 ++ c) t) }) ∧
    (∀ (c : BitVec 11) (t : Bool) (k : Nibble), 48 ≤ c.toNat →
      exec (.cmd16Throttle c t k) s =
        .next { s with ret := .commandWord (.throttle (c.toNat - 48)) t k (k == crc4 s.cfg.inv c t) }) ∧
    (∀ (low : BitVec 7) (code : Byte),
      exec (.resp16Error low code) s = .next { s with ret := .respClass (.error code) }) ∧
    exec .resp16Stopped s = .next { s with ret := .respClass .stopped } ∧
    (∀ (rsv tag : BitVec 3) (value : Byte),
      exec (.resp16Telemetry rsv tag value) s =
        .next
          { s with
            ret := .respClass (if s.cfg.edtSupport then .telemetry tag value else .period tag (0#1 ++ value)) }) ∧
    (∀ (rsv e : BitVec 3) (b : BitVec 9), (Instr.resp16Period rsv e b).wellFormed = true →
      exec (.resp16Period rsv e b) s = .next { s with ret := .respClass (.period e b) }) ∧
    exec .err8None s = .next { s with ret := .errName (errorOfCode s.cfg 0#8) } ∧
    exec .err8ResponseTimeout s = .next { s with ret := .errName (errorOfCode s.cfg 1#8) } ∧
    exec .err8BadDecodeFirstNibble s = .next { s with ret := .errName (errorOfCode s.cfg 2#8) } ∧
    exec .err8BadDecodeSecondNibble s = .next { s with ret := .errName (errorOfCode s.cfg 3#8) } ∧
    exec .err8BadDecodeThirdNibble s = .next { s with ret := .errName (errorOfCode s.cfg 4#8) } ∧
    exec .err8BadDecodeFourthNibble s = .next { s with ret := .errName (errorOfCode s.cfg 5#8) } ∧
    exec .err8BadChecksum s = .next { s with ret := .errName (errorOfCode s.cfg 6#8) } ∧
    (s.cfg.errOk → ∀ e : Error, errorOfCode s.cfg (errorCode s.cfg e) = some e) ∧
    (∀ code : Byte, (∀ e : Error, errorCode s.cfg e ≠ code) → errorOfCode s.cfg code = none)

/-- 30_encoding.md section 4 and 44_decoder.md section 2: each of the 32 symbols reads its own entry of the table. That a symbol
is an instruction which answers its entry and writes nothing else is the model's (log 3). -/
def Obligations.SymbolWordsReadTheirEntry : Prop :=
  ∀ s : State,
    (∀ p ∈ ([(.gcr5_00000, 0), (.gcr5_00001, 1), (.gcr5_00010, 2), (.gcr5_00011, 3), (.gcr5_00100, 4),
        (.gcr5_00101, 5), (.gcr5_00110, 6), (.gcr5_00111, 7), (.gcr5_01000, 8), (.gcr5_01001, 9), (.gcr5_01010, 10),
        (.gcr5_01011, 11), (.gcr5_01100, 12), (.gcr5_01101, 13), (.gcr5_01110, 14), (.gcr5_01111, 15),
        (.gcr5_10000, 16), (.gcr5_10001, 17), (.gcr5_10010, 18), (.gcr5_10011, 19), (.gcr5_10100, 20),
        (.gcr5_10101, 21), (.gcr5_10110, 22), (.gcr5_10111, 23), (.gcr5_11000, 24), (.gcr5_11001, 25),
        (.gcr5_11010, 26), (.gcr5_11011, 27), (.gcr5_11100, 28), (.gcr5_11101, 29), (.gcr5_11110, 30),
        (.gcr5_11111, 31)] : List (Instr × Nat)),
      exec p.1 s = .next { s with ret := .u8 (s.cfg.gcrDecode.getD p.2 0xFF#8) }) ∧
    (s.cfg.ok → exec .gcr5_11001 s = .next { s with ret := .u8 0#8 })

/-! ### Steps and records -/

/-- A step in the host's turn runs the instruction of the next call record, with the timer's tick and the interrupt that fall in
the same step (log 1, log 10, log 11, log 16; 60_exceptions.md section 2 for a pending interrupt, which comes first). `c` and
`f` are the count and the event of one tick from the state before the step (40_pulse_timer.md section 2): a tick counts when RUN
is 1 before the call and after it and the call reaches the registers without writing the counter; a call of the codec, the
decoder or the queries takes none (44_decoder.md section 1; log 10). -/
def Obligations.StepRunsTheHostsCall : Prop :=
  ∀ (s u : State) (b : Byte) (bs r : List Byte) (rest : List (List Byte)) (i : Instr) (c : Byte) (f : Bool), s.quiet →
    s.hostTurn = true → u = { s with calls := rest } → c = (if s.tcnt = s.limit then 0#8 else s.tcnt + 1#8) →
    f = decide (s.tcnt = s.limit) →
    (s.pending = true →
      (s.jt = .none → step s = .refused .irqWithoutTarget) ∧
      ∀ t, exec .irqEntry s = .next t →
        (s.run = true → t.run = true → s.overTop = true → step s = .refused .counterAboveTop) ∧
        (s.run = true → t.run = true → s.overTop = false → step s = .next { t with tcnt := c, flag := t.flag || f }) ∧
        ((s.run = false ∨ t.run = false) → step s = .next t)) ∧
    (s.pending = false → s.calls = (b :: bs) :: rest → decode (b :: bs) = .ok (i, r) → i.isStep = false →
      (∀ e, exec i u = .refused e → step s = .refused e) ∧
      ∀ t, exec i u = .next t →
        ∀ ticks : Bool,
          (ticks = true ↔ s.run = true ∧ t.run = true ∧
            (i ∈ [Instr.setMaxTimeout, .setShortTimeout, .start, .stop, .clearFlag, .hasOverflowed, .enableInterrupt,
                .disableInterrupt] ∨ (∃ w, i = .sendCommand w) ∨ (∃ bytes n, i = .send bytes n))) →
          (ticks = true → s.overTop = true → step s = .refused .counterAboveTop) ∧
          ∀ t', (ticks = false ∨ s.overTop = false) →
            t' = (if ticks then { t with tcnt := c, flag := t.flag || f } else t) →
            (t'.pending = false → step s = .next t') ∧
            (t'.pending = true → t'.hostTurn = true → step s = exec .irqEntry t') ∧
            (t'.pending = true → t'.hostTurn = false → step s = .refused .interruptDuringSend)) ∧
    (s.pending = false → (s.calls = [] ∧ rest = [] ∨ s.calls = [] :: rest) →
      (s.run = false → step s = .next u) ∧
      (s.run = true → s.overTop = true → step s = .refused .counterAboveTop) ∧
      (s.run = true → s.overTop = false →
        ∀ t', t' = { u with tcnt := c, flag := s.flag || f } →
          (t'.pending = false → step s = .next t') ∧ (t'.pending = true → step s = exec .irqEntry t'))) ∧
    (s.pending = false → s.calls = (b :: bs) :: rest → ∀ e, decode (b :: bs) = .error e →
      step s = .refused (.badCall e)) ∧
    (s.pending = false → s.calls = (b :: bs) :: rest → decode (b :: bs) = .ok (i, r) → i.isStep = true →
      step s = .refused .stepIsNotACall)

/-- 43_receiver.md sections 1 to 4, 42_pulsed_output.md section 3: outside the host's turn a step runs the rule the state
selects. That the cycle step runs in PHASE Idle or Done during a direct `send` is the model's (log 12). -/
def Obligations.StepRunsTheBlocksOwnRule : Prop :=
  ∀ s : State, s.quiet → s.hostTurn = false →
    (s.phase.isHosts = true ∨ (s.phase = .sending ∧ s.txBusy = true) → step s = exec .txStep s) ∧
    (s.phase = .sending → s.txBusy = false → step s = exec .getResponse s) ∧
    (s.phase = .waitingForFirstEdge → s.pinRead = false → step s = exec .rxFirstEdge s) ∧
    (s.phase = .waitingForFirstEdge → s.pinRead = true → s.tcnt ≠ 255#8 → step s = exec .rxWait s) ∧
    (s.phase = .waitingForFirstEdge → s.pinRead = true → s.tcnt = 255#8 → 1 < s.budget → step s = exec .rxOvf s) ∧
    (s.phase = .waitingForFirstEdge → s.pinRead = true → s.tcnt = 255#8 → s.budget = 1 → step s = exec .rxTimeout s) ∧
    (s.phase = .sampling → s.pinRead = s.prev → 1 < s.next → step s = exec .rxCount s) ∧
    (s.phase = .sampling → s.pinRead = s.prev → s.next = 1 → step s = exec .rxSample s) ∧
    (s.phase = .sampling → s.pinRead ≠ s.prev → s.next = 1 → step s = exec .rxCollide s) ∧
    (s.phase = .sampling → s.pinRead ≠ s.prev → s.next ≠ 1 → step s = exec .rxEdge s)

/-- The record of every well-formed instruction decodes to it, with every operand at every value, and leaves the bytes after it
(the record's layout is the model's, log 2 and log 3; the words inside it are the spec's formats). -/
def Obligations.DecodeInvertsEncode : Prop :=
  ∀ (i : Instr) (r : List Byte), i.wellFormed = true → decode (encode i ++ r) = .ok (i, r)

/-- Whatever the decoder answers is a well-formed instruction. That an ill-formed term has no record is the model's (log 24), as
is the layout of records (log 2, log 3). -/
def Obligations.DecodedIsWellFormed : Prop :=
  ∀ (bs : List Byte) (i : Instr) (r : List Byte), decode bs = .ok (i, r) → i.wellFormed = true

/-- A few words written out from spec/opcode_table.json and the formats of 30_encoding.md. The format bytes 0xE0 and 0xE2, and
which row a bare word is where formats overlap, are the model's (log 3). -/
def Obligations.WordsDecodeAsTheTableSays : Prop :=
  decodeTableWord 8 0x01 = some .init ∧ decodeTableWord 8 0x13 = some .start ∧ decodeTableWord 8 0x8C = some .irqEntry ∧
  decodeTableWord 16 0x0000 = some (.cmd16Special0 0 false 0) ∧ decodeTableWord 16 0x0FFF = some .resp16Stopped ∧
  decodeTableWord 5 0b11001 = some .gcr5_11001 ∧
  decode [0xE0#8, 0xC6#8, 0x82#8] = .ok (.cmd16Throttle 1046 false 6, []) ∧
  decode [0xE2#8, 0x00#8, 0x05#8] = .ok (.resp16Period 0 2 0x100, []) ∧
  decode [0xFF#8] = .error (.unknownIdentifier 0xFF#8)

end
end

