-- ==== Sys2Proof/Laws/Decode.lean ====
section
/-! SUPPORT. Every operand reader gives back what its writer wrote, whatever bytes follow. -/

namespace Sys2Proof

/-- Enough fuel does not change the bytes of a number: the writer's own recursion. -/
theorem natBytes_step (fuel n : Nat) (h : 128 ≤ n) :
    natBytes (fuel + 1) n = BitVec.ofNat 8 (128 + n % 128) :: natBytes fuel (n / 128) := by
  simp [natBytes, Nat.not_lt.mpr h]

theorem pNat_natBytes (fuel n : Nat) (h : n ≤ fuel) (r : List Byte) : pNat (natBytes fuel n ++ r) = .ok (n, r) := by
  induction fuel generalizing n with
  | zero =>
    obtain rfl : n = 0 := by omega
    simp [natBytes, pNat]
  | succ fuel ih =>
    by_cases hn : n < 128
    · have : n % 256 = n := by omega
      simp [natBytes, hn, pNat, this]
    · have hb : (128 + n % 128) % 256 = 128 + n % 128 := by omega
      rw [natBytes_step fuel n (by omega), List.cons_append, pNat, ih (n / 128) (by omega)]
      simp only [BitVec.toNat_ofNat, Nat.reducePow, hb]
      rw [if_neg (by omega)]
      congr 2
      omega

@[simp] theorem pNat_eNat (n : Nat) (r : List Byte) : pNat (eNat n ++ r) = .ok (n, r) := pNat_natBytes n n le_rfl r

@[simp] theorem pBit_eBit (b : Bool) (r : List Byte) : pBit (eBit b ++ r) = .ok (b, r) := by cases b <;> simp [pBit, eBit]

@[simp] theorem pInt_eInt (n : Int) (r : List Byte) : pInt (eInt n ++ r) = .ok (n, r) := by
  cases n <;> simp [pInt, eInt, pBit]

theorem mkRat_self_pred (q : Rat) : mkRat q.num (q.den - 1 + 1) = q := by
  rw [Nat.sub_add_cancel (Nat.one_le_iff_ne_zero.mpr q.den_nz), Rat.mkRat_self]

@[simp] theorem pReal_eReal (x : RealArg) (r : List Byte) : pReal (eReal x ++ r) = .ok (x, r) := by
  cases x with
  | fin q => simp [pReal, eReal, pBelow, List.append_assoc, mkRat_self_pred]
  | posInf => simp [pReal, eReal, pBelow]
  | negInf => simp [pReal, eReal, pBelow]
  | nan => simp [pReal, eReal, pBelow]

@[simp] theorem pByte_cons (b : Byte) (r : List Byte) : pByte (b :: r) = .ok (b, r) := rfl

/-- A word from its two bytes. -/
theorem halves_append (w : BitVec 16) : (w.extractLsb' 8 8 ++ w.extractLsb' 0 8 : BitVec 16) = w := by
  have h := BitVec.extractLsb'_append_extractLsb'_eq_extractLsb' (x := w) (start₁ := 0) (start₂ := 8) (len₁ := 8)
    (len₂ := 8) rfl
  simpa using h

@[simp] theorem pWord16_eWord16 (w : BitVec 16) (r : List Byte) : pWord16 (eWord16 w ++ r) = .ok (w, r) := by
  simp only [eWord16, List.cons_append, List.nil_append, pWord16, halves_append]

/-- 24 bits from their three bytes. -/
theorem thirds_append (w : BitVec 24) :
    (w.extractLsb' 16 8 ++ w.extractLsb' 8 8 ++ w.extractLsb' 0 8 : BitVec 24) = w := by
  have h := BitVec.extractLsb'_append_extractLsb'_eq_extractLsb' (x := w) (start₁ := 8) (start₂ := 16) (len₁ := 8)
    (len₂ := 8) rfl
  have h' := BitVec.extractLsb'_append_extractLsb'_eq_extractLsb' (x := w) (start₁ := 0) (start₂ := 8) (len₁ := 8)
    (len₂ := 16) rfl
  rw [h]
  simpa using h'

@[simp] theorem pWord24_eWord24 (w : BitVec 24) (r : List Byte) : pWord24 (eWord24 w ++ r) = .ok (w, r) := by
  simp only [eWord24, List.cons_append, List.nil_append, pWord24, thirds_append]

@[simp] theorem pWord11_setWidth (c : BitVec 11) (r : List Byte) :
    pWord11 (eWord16 (c.setWidth 16) ++ r) = .ok (c, r) := by
  have h : c.toNat < 2048 := c.isLt
  have h' : c.toNat % 65536 < 2048 := by omega
  simp [pWord11, h']

theorem pBytes_append (bs r : List Byte) : pBytes bs.length (bs ++ r) = .ok (bs, r) := by
  induction bs with
  | nil => rfl
  | cons b bs ih => simp [pBytes, ih]

@[simp] theorem pSeq_eSeq (bs r : List Byte) : pSeq (eSeq bs ++ r) = .ok (bs, r) := by
  simp [pSeq, eSeq, List.append_assoc, pBytes_append]

@[simp] theorem pNibble_eNibble (n : Nibble) (r : List Byte) : pNibble (eNibble n ++ r) = .ok (n, r) := by
  have h : n.toNat < 16 := n.isLt
  have h' : n.toNat % 256 = n.toNat := by omega
  simp [pNibble, eNibble, pBelow, h, h']

@[simp] theorem pSymbol_cons (s : Symbol) (r : List Byte) : pSymbol (s.setWidth 8 :: r) = .ok (s, r) := by
  have h : s.toNat < 32 := s.isLt
  have h' : s.toNat % 256 = s.toNat := by omega
  simp [pSymbol, pBelow, h, h']

theorem pSpecial_cons (s : BitVec 6) (h : s.toNat < 48) (r : List Byte) : pSpecial (s.setWidth 8 :: r) = .ok (s, r) := by
  have h' : s.toNat % 256 = s.toNat := by omega
  simp [pSpecial, pBelow, h, h']

@[simp] theorem errorOfIndex_errorIndex (e : Error) : errorOfIndex (errorIndex e) = e := by cases e <;> rfl

theorem pRaised_cons (e : Error) (h : e ≠ .none) (r : List Byte) :
    pRaised (BitVec.ofNat 8 (errorIndex e - 1) :: r) = .ok (e, r) := by
  cases e <;> simp_all [pRaised, pBelow, errorIndex, errorOfIndex]

theorem pPos_eNat (n : Nat) (h : 1 ≤ n) (r : List Byte) : pPos (eNat (n - 1) ++ r) = .ok (n, r) := by
  simp [pPos, Nat.sub_add_cancel h]

end Sys2Proof
end

