-- ==== Sys2Proof/Laws/State.lean ====
section
/-! SUPPORT. One lemma per field per named update of the state: no proof unfolds a record update. -/

namespace Sys2Proof.Machine

open Sys2Proof

variable (s : State)

@[simp] theorem State.returning_cfg (v : Value) : (s.returning v).cfg = s.cfg := rfl
@[simp] theorem State.returning_cmd (v : Value) : (s.returning v).cmd = s.cmd := rfl
@[simp] theorem State.returning_acc (v : Value) : (s.returning v).acc = s.acc := rfl
@[simp] theorem State.returning_resp (v : Value) : (s.returning v).resp = s.resp := rfl
@[simp] theorem State.returning_carry (v : Value) : (s.returning v).carry = s.carry := rfl
@[simp] theorem State.returning_done (v : Value) : (s.returning v).done = s.done := rfl
@[simp] theorem State.returning_phase (v : Value) : (s.returning v).phase = s.phase := rfl
@[simp] theorem State.returning_txi (v : Value) : (s.returning v).txi = s.txi := rfl
@[simp] theorem State.returning_txph (v : Value) : (s.returning v).txph = s.txph := rfl
@[simp] theorem State.returning_txcnt (v : Value) : (s.returning v).txcnt = s.txcnt := rfl
@[simp] theorem State.returning_txSrc (v : Value) : (s.returning v).txSrc = s.txSrc := rfl
@[simp] theorem State.returning_txBusy (v : Value) : (s.returning v).txBusy = s.txBusy := rfl
@[simp] theorem State.returning_bitidx (v : Value) : (s.returning v).bitidx = s.bitidx := rfl
@[simp] theorem State.returning_jt (v : Value) : (s.returning v).jt = s.jt := rfl
@[simp] theorem State.returning_prev (v : Value) : (s.returning v).prev = s.prev := rfl
@[simp] theorem State.returning_next (v : Value) : (s.returning v).next = s.next := rfl
@[simp] theorem State.returning_budget (v : Value) : (s.returning v).budget = s.budget := rfl
@[simp] theorem State.returning_tcnt (v : Value) : (s.returning v).tcnt = s.tcnt := rfl
@[simp] theorem State.returning_top (v : Value) : (s.returning v).top = s.top := rfl
@[simp] theorem State.returning_mode (v : Value) : (s.returning v).mode = s.mode := rfl
@[simp] theorem State.returning_run (v : Value) : (s.returning v).run = s.run := rfl
@[simp] theorem State.returning_flag (v : Value) : (s.returning v).flag = s.flag := rfl
@[simp] theorem State.returning_ie (v : Value) : (s.returning v).ie = s.ie := rfl
@[simp] theorem State.returning_gie (v : Value) : (s.returning v).gie = s.gie := rfl
@[simp] theorem State.returning_otherIrq (v : Value) : (s.returning v).otherIrq = s.otherIrq := rfl
@[simp] theorem State.returning_dir (v : Value) : (s.returning v).dir = s.dir := rfl
@[simp] theorem State.returning_out (v : Value) : (s.returning v).out = s.out := rfl
@[simp] theorem State.returning_timingFault (v : Value) : (s.returning v).timingFault = s.timingFault := rfl
@[simp] theorem State.returning_lineIn (v : Value) : (s.returning v).lineIn = s.lineIn := rfl
@[simp] theorem State.returning_lineCount (v : Value) : (s.returning v).lineCount = s.lineCount := rfl
@[simp] theorem State.returning_ticksIn (v : Value) : (s.returning v).ticksIn = s.ticksIn := rfl
@[simp] theorem State.returning_freeCount (v : Value) : (s.returning v).freeCount = s.freeCount := rfl
@[simp] theorem State.returning_calls (v : Value) : (s.returning v).calls = s.calls := rfl
@[simp] theorem State.returning_resets (v : Value) : (s.returning v).resets = s.resets := rfl
@[simp] theorem State.returning_ready (v : Value) : (s.returning v).ready = s.ready := rfl
@[simp] theorem State.returning_ret (v : Value) : (s.returning v).ret = v := rfl

@[simp] theorem State.setTcnt_cfg (v : Byte) : (s.setTcnt v).cfg = s.cfg := rfl
@[simp] theorem State.setTcnt_cmd (v : Byte) : (s.setTcnt v).cmd = s.cmd := rfl
@[simp] theorem State.setTcnt_acc (v : Byte) : (s.setTcnt v).acc = s.acc := rfl
@[simp] theorem State.setTcnt_resp (v : Byte) : (s.setTcnt v).resp = s.resp := rfl
@[simp] theorem State.setTcnt_carry (v : Byte) : (s.setTcnt v).carry = s.carry := rfl
@[simp] theorem State.setTcnt_done (v : Byte) : (s.setTcnt v).done = s.done := rfl
@[simp] theorem State.setTcnt_phase (v : Byte) : (s.setTcnt v).phase = s.phase := rfl
@[simp] theorem State.setTcnt_txi (v : Byte) : (s.setTcnt v).txi = s.txi := rfl
@[simp] theorem State.setTcnt_txph (v : Byte) : (s.setTcnt v).txph = s.txph := rfl
@[simp] theorem State.setTcnt_txcnt (v : Byte) : (s.setTcnt v).txcnt = s.txcnt := rfl
@[simp] theorem State.setTcnt_txSrc (v : Byte) : (s.setTcnt v).txSrc = s.txSrc := rfl
@[simp] theorem State.setTcnt_txBusy (v : Byte) : (s.setTcnt v).txBusy = s.txBusy := rfl
@[simp] theorem State.setTcnt_bitidx (v : Byte) : (s.setTcnt v).bitidx = s.bitidx := rfl
@[simp] theorem State.setTcnt_jt (v : Byte) : (s.setTcnt v).jt = s.jt := rfl
@[simp] theorem State.setTcnt_prev (v : Byte) : (s.setTcnt v).prev = s.prev := rfl
@[simp] theorem State.setTcnt_next (v : Byte) : (s.setTcnt v).next = s.next := rfl
@[simp] theorem State.setTcnt_budget (v : Byte) : (s.setTcnt v).budget = s.budget := rfl
@[simp] theorem State.setTcnt_tcnt (v : Byte) : (s.setTcnt v).tcnt = v := rfl
@[simp] theorem State.setTcnt_top (v : Byte) : (s.setTcnt v).top = s.top := rfl
@[simp] theorem State.setTcnt_mode (v : Byte) : (s.setTcnt v).mode = s.mode := rfl
@[simp] theorem State.setTcnt_run (v : Byte) : (s.setTcnt v).run = s.run := rfl
@[simp] theorem State.setTcnt_flag (v : Byte) : (s.setTcnt v).flag = s.flag := rfl
@[simp] theorem State.setTcnt_ie (v : Byte) : (s.setTcnt v).ie = s.ie := rfl
@[simp] theorem State.setTcnt_gie (v : Byte) : (s.setTcnt v).gie = s.gie := rfl
@[simp] theorem State.setTcnt_otherIrq (v : Byte) : (s.setTcnt v).otherIrq = s.otherIrq := rfl
@[simp] theorem State.setTcnt_dir (v : Byte) : (s.setTcnt v).dir = s.dir := rfl
@[simp] theorem State.setTcnt_out (v : Byte) : (s.setTcnt v).out = s.out := rfl
@[simp] theorem State.setTcnt_timingFault (v : Byte) : (s.setTcnt v).timingFault = s.timingFault := rfl
@[simp] theorem State.setTcnt_lineIn (v : Byte) : (s.setTcnt v).lineIn = s.lineIn := rfl
@[simp] theorem State.setTcnt_lineCount (v : Byte) : (s.setTcnt v).lineCount = s.lineCount := rfl
@[simp] theorem State.setTcnt_ticksIn (v : Byte) : (s.setTcnt v).ticksIn = s.ticksIn := rfl
@[simp] theorem State.setTcnt_freeCount (v : Byte) : (s.setTcnt v).freeCount = s.freeCount := rfl
@[simp] theorem State.setTcnt_calls (v : Byte) : (s.setTcnt v).calls = s.calls := rfl
@[simp] theorem State.setTcnt_resets (v : Byte) : (s.setTcnt v).resets = s.resets := rfl
@[simp] theorem State.setTcnt_ready (v : Byte) : (s.setTcnt v).ready = s.ready := rfl
@[simp] theorem State.setTcnt_ret (v : Byte) : (s.setTcnt v).ret = s.ret := rfl

@[simp] theorem State.maxMode_cfg : s.maxMode.cfg = s.cfg := rfl
@[simp] theorem State.maxMode_cmd : s.maxMode.cmd = s.cmd := rfl
@[simp] theorem State.maxMode_acc : s.maxMode.acc = s.acc := rfl
@[simp] theorem State.maxMode_resp : s.maxMode.resp = s.resp := rfl
@[simp] theorem State.maxMode_carry : s.maxMode.carry = s.carry := rfl
@[simp] theorem State.maxMode_done : s.maxMode.done = s.done := rfl
@[simp] theorem State.maxMode_phase : s.maxMode.phase = s.phase := rfl
@[simp] theorem State.maxMode_txi : s.maxMode.txi = s.txi := rfl
@[simp] theorem State.maxMode_txph : s.maxMode.txph = s.txph := rfl
@[simp] theorem State.maxMode_txcnt : s.maxMode.txcnt = s.txcnt := rfl
@[simp] theorem State.maxMode_txSrc : s.maxMode.txSrc = s.txSrc := rfl
@[simp] theorem State.maxMode_txBusy : s.maxMode.txBusy = s.txBusy := rfl
@[simp] theorem State.maxMode_bitidx : s.maxMode.bitidx = s.bitidx := rfl
@[simp] theorem State.maxMode_jt : s.maxMode.jt = s.jt := rfl
@[simp] theorem State.maxMode_prev : s.maxMode.prev = s.prev := rfl
@[simp] theorem State.maxMode_next : s.maxMode.next = s.next := rfl
@[simp] theorem State.maxMode_budget : s.maxMode.budget = s.budget := rfl
@[simp] theorem State.maxMode_tcnt : s.maxMode.tcnt = s.tcnt := rfl
@[simp] theorem State.maxMode_top : s.maxMode.top = s.top := rfl
@[simp] theorem State.maxMode_mode : s.maxMode.mode = .max := rfl
@[simp] theorem State.maxMode_run : s.maxMode.run = s.run := rfl
@[simp] theorem State.maxMode_flag : s.maxMode.flag = s.flag := rfl
@[simp] theorem State.maxMode_ie : s.maxMode.ie = s.ie := rfl
@[simp] theorem State.maxMode_gie : s.maxMode.gie = s.gie := rfl
@[simp] theorem State.maxMode_otherIrq : s.maxMode.otherIrq = s.otherIrq := rfl
@[simp] theorem State.maxMode_dir : s.maxMode.dir = s.dir := rfl
@[simp] theorem State.maxMode_out : s.maxMode.out = s.out := rfl
@[simp] theorem State.maxMode_timingFault : s.maxMode.timingFault = s.timingFault := rfl
@[simp] theorem State.maxMode_lineIn : s.maxMode.lineIn = s.lineIn := rfl
@[simp] theorem State.maxMode_lineCount : s.maxMode.lineCount = s.lineCount := rfl
@[simp] theorem State.maxMode_ticksIn : s.maxMode.ticksIn = s.ticksIn := rfl
@[simp] theorem State.maxMode_freeCount : s.maxMode.freeCount = s.freeCount := rfl
@[simp] theorem State.maxMode_calls : s.maxMode.calls = s.calls := rfl
@[simp] theorem State.maxMode_resets : s.maxMode.resets = s.resets := rfl
@[simp] theorem State.maxMode_ready : s.maxMode.ready = s.ready := rfl
@[simp] theorem State.maxMode_ret : s.maxMode.ret = s.ret := rfl

@[simp] theorem State.shortMode_cfg : s.shortMode.cfg = s.cfg := rfl
@[simp] theorem State.shortMode_cmd : s.shortMode.cmd = s.cmd := rfl
@[simp] theorem State.shortMode_acc : s.shortMode.acc = s.acc := rfl
@[simp] theorem State.shortMode_resp : s.shortMode.resp = s.resp := rfl
@[simp] theorem State.shortMode_carry : s.shortMode.carry = s.carry := rfl
@[simp] theorem State.shortMode_done : s.shortMode.done = s.done := rfl
@[simp] theorem State.shortMode_phase : s.shortMode.phase = s.phase := rfl
@[simp] theorem State.shortMode_txi : s.shortMode.txi = s.txi := rfl
@[simp] theorem State.shortMode_txph : s.shortMode.txph = s.txph := rfl
@[simp] theorem State.shortMode_txcnt : s.shortMode.txcnt = s.txcnt := rfl
@[simp] theorem State.shortMode_txSrc : s.shortMode.txSrc = s.txSrc := rfl
@[simp] theorem State.shortMode_txBusy : s.shortMode.txBusy = s.txBusy := rfl
@[simp] theorem State.shortMode_bitidx : s.shortMode.bitidx = s.bitidx := rfl
@[simp] theorem State.shortMode_jt : s.shortMode.jt = s.jt := rfl
@[simp] theorem State.shortMode_prev : s.shortMode.prev = s.prev := rfl
@[simp] theorem State.shortMode_next : s.shortMode.next = s.next := rfl
@[simp] theorem State.shortMode_budget : s.shortMode.budget = s.budget := rfl
@[simp] theorem State.shortMode_tcnt : s.shortMode.tcnt = s.tcnt := rfl
@[simp] theorem State.shortMode_top : s.shortMode.top = BitVec.ofNat 8 (s.cfg.tb - 1) := rfl
@[simp] theorem State.shortMode_mode : s.shortMode.mode = .short := rfl
@[simp] theorem State.shortMode_run : s.shortMode.run = s.run := rfl
@[simp] theorem State.shortMode_flag : s.shortMode.flag = s.flag := rfl
@[simp] theorem State.shortMode_ie : s.shortMode.ie = s.ie := rfl
@[simp] theorem State.shortMode_gie : s.shortMode.gie = s.gie := rfl
@[simp] theorem State.shortMode_otherIrq : s.shortMode.otherIrq = s.otherIrq := rfl
@[simp] theorem State.shortMode_dir : s.shortMode.dir = s.dir := rfl
@[simp] theorem State.shortMode_out : s.shortMode.out = s.out := rfl
@[simp] theorem State.shortMode_timingFault : s.shortMode.timingFault = s.timingFault := rfl
@[simp] theorem State.shortMode_lineIn : s.shortMode.lineIn = s.lineIn := rfl
@[simp] theorem State.shortMode_lineCount : s.shortMode.lineCount = s.lineCount := rfl
@[simp] theorem State.shortMode_ticksIn : s.shortMode.ticksIn = s.ticksIn := rfl
@[simp] theorem State.shortMode_freeCount : s.shortMode.freeCount = s.freeCount := rfl
@[simp] theorem State.shortMode_calls : s.shortMode.calls = s.calls := rfl
@[simp] theorem State.shortMode_resets : s.shortMode.resets = s.resets := rfl
@[simp] theorem State.shortMode_ready : s.shortMode.ready = s.ready := rfl
@[simp] theorem State.shortMode_ret : s.shortMode.ret = s.ret := rfl

@[simp] theorem State.setRun_cfg (b : Bool) : (s.setRun b).cfg = s.cfg := rfl
@[simp] theorem State.setRun_cmd (b : Bool) : (s.setRun b).cmd = s.cmd := rfl
@[simp] theorem State.setRun_acc (b : Bool) : (s.setRun b).acc = s.acc := rfl
@[simp] theorem State.setRun_resp (b : Bool) : (s.setRun b).resp = s.resp := rfl
@[simp] theorem State.setRun_carry (b : Bool) : (s.setRun b).carry = s.carry := rfl
@[simp] theorem State.setRun_done (b : Bool) : (s.setRun b).done = s.done := rfl
@[simp] theorem State.setRun_phase (b : Bool) : (s.setRun b).phase = s.phase := rfl
@[simp] theorem State.setRun_txi (b : Bool) : (s.setRun b).txi = s.txi := rfl
@[simp] theorem State.setRun_txph (b : Bool) : (s.setRun b).txph = s.txph := rfl
@[simp] theorem State.setRun_txcnt (b : Bool) : (s.setRun b).txcnt = s.txcnt := rfl
@[simp] theorem State.setRun_txSrc (b : Bool) : (s.setRun b).txSrc = s.txSrc := rfl
@[simp] theorem State.setRun_txBusy (b : Bool) : (s.setRun b).txBusy = s.txBusy := rfl
@[simp] theorem State.setRun_bitidx (b : Bool) : (s.setRun b).bitidx = s.bitidx := rfl
@[simp] theorem State.setRun_jt (b : Bool) : (s.setRun b).jt = s.jt := rfl
@[simp] theorem State.setRun_prev (b : Bool) : (s.setRun b).prev = s.prev := rfl
@[simp] theorem State.setRun_next (b : Bool) : (s.setRun b).next = s.next := rfl
@[simp] theorem State.setRun_budget (b : Bool) : (s.setRun b).budget = s.budget := rfl
@[simp] theorem State.setRun_tcnt (b : Bool) : (s.setRun b).tcnt = s.tcnt := rfl
@[simp] theorem State.setRun_top (b : Bool) : (s.setRun b).top = s.top := rfl
@[simp] theorem State.setRun_mode (b : Bool) : (s.setRun b).mode = s.mode := rfl
@[simp] theorem State.setRun_run (b : Bool) : (s.setRun b).run = b := rfl
@[simp] theorem State.setRun_flag (b : Bool) : (s.setRun b).flag = s.flag := rfl
@[simp] theorem State.setRun_ie (b : Bool) : (s.setRun b).ie = s.ie := rfl
@[simp] theorem State.setRun_gie (b : Bool) : (s.setRun b).gie = s.gie := rfl
@[simp] theorem State.setRun_otherIrq (b : Bool) : (s.setRun b).otherIrq = s.otherIrq := rfl
@[simp] theorem State.setRun_dir (b : Bool) : (s.setRun b).dir = s.dir := rfl
@[simp] theorem State.setRun_out (b : Bool) : (s.setRun b).out = s.out := rfl
@[simp] theorem State.setRun_timingFault (b : Bool) : (s.setRun b).timingFault = s.timingFault := rfl
@[simp] theorem State.setRun_lineIn (b : Bool) : (s.setRun b).lineIn = s.lineIn := rfl
@[simp] theorem State.setRun_lineCount (b : Bool) : (s.setRun b).lineCount = s.lineCount := rfl
@[simp] theorem State.setRun_ticksIn (b : Bool) : (s.setRun b).ticksIn = s.ticksIn := rfl
@[simp] theorem State.setRun_freeCount (b : Bool) : (s.setRun b).freeCount = s.freeCount := rfl
@[simp] theorem State.setRun_calls (b : Bool) : (s.setRun b).calls = s.calls := rfl
@[simp] theorem State.setRun_resets (b : Bool) : (s.setRun b).resets = s.resets := rfl
@[simp] theorem State.setRun_ready (b : Bool) : (s.setRun b).ready = s.ready := rfl
@[simp] theorem State.setRun_ret (b : Bool) : (s.setRun b).ret = s.ret := rfl

@[simp] theorem State.setFlag_cfg (b : Bool) : (s.setFlag b).cfg = s.cfg := rfl
@[simp] theorem State.setFlag_cmd (b : Bool) : (s.setFlag b).cmd = s.cmd := rfl
@[simp] theorem State.setFlag_acc (b : Bool) : (s.setFlag b).acc = s.acc := rfl
@[simp] theorem State.setFlag_resp (b : Bool) : (s.setFlag b).resp = s.resp := rfl
@[simp] theorem State.setFlag_carry (b : Bool) : (s.setFlag b).carry = s.carry := rfl
@[simp] theorem State.setFlag_done (b : Bool) : (s.setFlag b).done = s.done := rfl
@[simp] theorem State.setFlag_phase (b : Bool) : (s.setFlag b).phase = s.phase := rfl
@[simp] theorem State.setFlag_txi (b : Bool) : (s.setFlag b).txi = s.txi := rfl
@[simp] theorem State.setFlag_txph (b : Bool) : (s.setFlag b).txph = s.txph := rfl
@[simp] theorem State.setFlag_txcnt (b : Bool) : (s.setFlag b).txcnt = s.txcnt := rfl
@[simp] theorem State.setFlag_txSrc (b : Bool) : (s.setFlag b).txSrc = s.txSrc := rfl
@[simp] theorem State.setFlag_txBusy (b : Bool) : (s.setFlag b).txBusy = s.txBusy := rfl
@[simp] theorem State.setFlag_bitidx (b : Bool) : (s.setFlag b).bitidx = s.bitidx := rfl
@[simp] theorem State.setFlag_jt (b : Bool) : (s.setFlag b).jt = s.jt := rfl
@[simp] theorem State.setFlag_prev (b : Bool) : (s.setFlag b).prev = s.prev := rfl
@[simp] theorem State.setFlag_next (b : Bool) : (s.setFlag b).next = s.next := rfl
@[simp] theorem State.setFlag_budget (b : Bool) : (s.setFlag b).budget = s.budget := rfl
@[simp] theorem State.setFlag_tcnt (b : Bool) : (s.setFlag b).tcnt = s.tcnt := rfl
@[simp] theorem State.setFlag_top (b : Bool) : (s.setFlag b).top = s.top := rfl
@[simp] theorem State.setFlag_mode (b : Bool) : (s.setFlag b).mode = s.mode := rfl
@[simp] theorem State.setFlag_run (b : Bool) : (s.setFlag b).run = s.run := rfl
@[simp] theorem State.setFlag_flag (b : Bool) : (s.setFlag b).flag = b := rfl
@[simp] theorem State.setFlag_ie (b : Bool) : (s.setFlag b).ie = s.ie := rfl
@[simp] theorem State.setFlag_gie (b : Bool) : (s.setFlag b).gie = s.gie := rfl
@[simp] theorem State.setFlag_otherIrq (b : Bool) : (s.setFlag b).otherIrq = s.otherIrq := rfl
@[simp] theorem State.setFlag_dir (b : Bool) : (s.setFlag b).dir = s.dir := rfl
@[simp] theorem State.setFlag_out (b : Bool) : (s.setFlag b).out = s.out := rfl
@[simp] theorem State.setFlag_timingFault (b : Bool) : (s.setFlag b).timingFault = s.timingFault := rfl
@[simp] theorem State.setFlag_lineIn (b : Bool) : (s.setFlag b).lineIn = s.lineIn := rfl
@[simp] theorem State.setFlag_lineCount (b : Bool) : (s.setFlag b).lineCount = s.lineCount := rfl
@[simp] theorem State.setFlag_ticksIn (b : Bool) : (s.setFlag b).ticksIn = s.ticksIn := rfl
@[simp] theorem State.setFlag_freeCount (b : Bool) : (s.setFlag b).freeCount = s.freeCount := rfl
@[simp] theorem State.setFlag_calls (b : Bool) : (s.setFlag b).calls = s.calls := rfl
@[simp] theorem State.setFlag_resets (b : Bool) : (s.setFlag b).resets = s.resets := rfl
@[simp] theorem State.setFlag_ready (b : Bool) : (s.setFlag b).ready = s.ready := rfl
@[simp] theorem State.setFlag_ret (b : Bool) : (s.setFlag b).ret = s.ret := rfl

@[simp] theorem State.setIe_cfg (b : Bool) : (s.setIe b).cfg = s.cfg := rfl
@[simp] theorem State.setIe_cmd (b : Bool) : (s.setIe b).cmd = s.cmd := rfl
@[simp] theorem State.setIe_acc (b : Bool) : (s.setIe b).acc = s.acc := rfl
@[simp] theorem State.setIe_resp (b : Bool) : (s.setIe b).resp = s.resp := rfl
@[simp] theorem State.setIe_carry (b : Bool) : (s.setIe b).carry = s.carry := rfl
@[simp] theorem State.setIe_done (b : Bool) : (s.setIe b).done = s.done := rfl
@[simp] theorem State.setIe_phase (b : Bool) : (s.setIe b).phase = s.phase := rfl
@[simp] theorem State.setIe_txi (b : Bool) : (s.setIe b).txi = s.txi := rfl
@[simp] theorem State.setIe_txph (b : Bool) : (s.setIe b).txph = s.txph := rfl
@[simp] theorem State.setIe_txcnt (b : Bool) : (s.setIe b).txcnt = s.txcnt := rfl
@[simp] theorem State.setIe_txSrc (b : Bool) : (s.setIe b).txSrc = s.txSrc := rfl
@[simp] theorem State.setIe_txBusy (b : Bool) : (s.setIe b).txBusy = s.txBusy := rfl
@[simp] theorem State.setIe_bitidx (b : Bool) : (s.setIe b).bitidx = s.bitidx := rfl
@[simp] theorem State.setIe_jt (b : Bool) : (s.setIe b).jt = s.jt := rfl
@[simp] theorem State.setIe_prev (b : Bool) : (s.setIe b).prev = s.prev := rfl
@[simp] theorem State.setIe_next (b : Bool) : (s.setIe b).next = s.next := rfl
@[simp] theorem State.setIe_budget (b : Bool) : (s.setIe b).budget = s.budget := rfl
@[simp] theorem State.setIe_tcnt (b : Bool) : (s.setIe b).tcnt = s.tcnt := rfl
@[simp] theorem State.setIe_top (b : Bool) : (s.setIe b).top = s.top := rfl
@[simp] theorem State.setIe_mode (b : Bool) : (s.setIe b).mode = s.mode := rfl
@[simp] theorem State.setIe_run (b : Bool) : (s.setIe b).run = s.run := rfl
@[simp] theorem State.setIe_flag (b : Bool) : (s.setIe b).flag = s.flag := rfl
@[simp] theorem State.setIe_ie (b : Bool) : (s.setIe b).ie = b := rfl
@[simp] theorem State.setIe_gie (b : Bool) : (s.setIe b).gie = s.gie := rfl
@[simp] theorem State.setIe_otherIrq (b : Bool) : (s.setIe b).otherIrq = s.otherIrq := rfl
@[simp] theorem State.setIe_dir (b : Bool) : (s.setIe b).dir = s.dir := rfl
@[simp] theorem State.setIe_out (b : Bool) : (s.setIe b).out = s.out := rfl
@[simp] theorem State.setIe_timingFault (b : Bool) : (s.setIe b).timingFault = s.timingFault := rfl
@[simp] theorem State.setIe_lineIn (b : Bool) : (s.setIe b).lineIn = s.lineIn := rfl
@[simp] theorem State.setIe_lineCount (b : Bool) : (s.setIe b).lineCount = s.lineCount := rfl
@[simp] theorem State.setIe_ticksIn (b : Bool) : (s.setIe b).ticksIn = s.ticksIn := rfl
@[simp] theorem State.setIe_freeCount (b : Bool) : (s.setIe b).freeCount = s.freeCount := rfl
@[simp] theorem State.setIe_calls (b : Bool) : (s.setIe b).calls = s.calls := rfl
@[simp] theorem State.setIe_resets (b : Bool) : (s.setIe b).resets = s.resets := rfl
@[simp] theorem State.setIe_ready (b : Bool) : (s.setIe b).ready = s.ready := rfl
@[simp] theorem State.setIe_ret (b : Bool) : (s.setIe b).ret = s.ret := rfl

@[simp] theorem State.ticked_cfg : s.ticked.cfg = s.cfg := rfl
@[simp] theorem State.ticked_cmd : s.ticked.cmd = s.cmd := rfl
@[simp] theorem State.ticked_acc : s.ticked.acc = s.acc := rfl
@[simp] theorem State.ticked_resp : s.ticked.resp = s.resp := rfl
@[simp] theorem State.ticked_carry : s.ticked.carry = s.carry := rfl
@[simp] theorem State.ticked_done : s.ticked.done = s.done := rfl
@[simp] theorem State.ticked_phase : s.ticked.phase = s.phase := rfl
@[simp] theorem State.ticked_txi : s.ticked.txi = s.txi := rfl
@[simp] theorem State.ticked_txph : s.ticked.txph = s.txph := rfl
@[simp] theorem State.ticked_txcnt : s.ticked.txcnt = s.txcnt := rfl
@[simp] theorem State.ticked_txSrc : s.ticked.txSrc = s.txSrc := rfl
@[simp] theorem State.ticked_txBusy : s.ticked.txBusy = s.txBusy := rfl
@[simp] theorem State.ticked_bitidx : s.ticked.bitidx = s.bitidx := rfl
@[simp] theorem State.ticked_jt : s.ticked.jt = s.jt := rfl
@[simp] theorem State.ticked_prev : s.ticked.prev = s.prev := rfl
@[simp] theorem State.ticked_next : s.ticked.next = s.next := rfl
@[simp] theorem State.ticked_budget : s.ticked.budget = s.budget := rfl
@[simp] theorem State.ticked_tcnt : s.ticked.tcnt = s.tickCount := rfl
@[simp] theorem State.ticked_top : s.ticked.top = s.top := rfl
@[simp] theorem State.ticked_mode : s.ticked.mode = s.mode := rfl
@[simp] theorem State.ticked_run : s.ticked.run = s.run := rfl
@[simp] theorem State.ticked_flag : s.ticked.flag = (s.flag || s.tickSetsFlag) := rfl
@[simp] theorem State.ticked_ie : s.ticked.ie = s.ie := rfl
@[simp] theorem State.ticked_gie : s.ticked.gie = s.gie := rfl
@[simp] theorem State.ticked_otherIrq : s.ticked.otherIrq = s.otherIrq := rfl
@[simp] theorem State.ticked_dir : s.ticked.dir = s.dir := rfl
@[simp] theorem State.ticked_out : s.ticked.out = s.out := rfl
@[simp] theorem State.ticked_timingFault : s.ticked.timingFault = s.timingFault := rfl
@[simp] theorem State.ticked_lineIn : s.ticked.lineIn = s.lineIn := rfl
@[simp] theorem State.ticked_lineCount : s.ticked.lineCount = s.lineCount := rfl
@[simp] theorem State.ticked_ticksIn : s.ticked.ticksIn = s.ticksIn := rfl
@[simp] theorem State.ticked_freeCount : s.ticked.freeCount = s.freeCount := rfl
@[simp] theorem State.ticked_calls : s.ticked.calls = s.calls := rfl
@[simp] theorem State.ticked_resets : s.ticked.resets = s.resets := rfl
@[simp] theorem State.ticked_ready : s.ticked.ready = s.ready := rfl
@[simp] theorem State.ticked_ret : s.ticked.ret = s.ret := rfl

@[simp] theorem State.loosenTcnt_cfg : s.loosenTcnt.cfg = s.cfg := rfl
@[simp] theorem State.loosenTcnt_cmd : s.loosenTcnt.cmd = s.cmd := rfl
@[simp] theorem State.loosenTcnt_acc : s.loosenTcnt.acc = s.acc := rfl
@[simp] theorem State.loosenTcnt_resp : s.loosenTcnt.resp = s.resp := rfl
@[simp] theorem State.loosenTcnt_carry : s.loosenTcnt.carry = s.carry := rfl
@[simp] theorem State.loosenTcnt_done : s.loosenTcnt.done = s.done := rfl
@[simp] theorem State.loosenTcnt_phase : s.loosenTcnt.phase = s.phase := rfl
@[simp] theorem State.loosenTcnt_txi : s.loosenTcnt.txi = s.txi := rfl
@[simp] theorem State.loosenTcnt_txph : s.loosenTcnt.txph = s.txph := rfl
@[simp] theorem State.loosenTcnt_txcnt : s.loosenTcnt.txcnt = s.txcnt := rfl
@[simp] theorem State.loosenTcnt_txSrc : s.loosenTcnt.txSrc = s.txSrc := rfl
@[simp] theorem State.loosenTcnt_txBusy : s.loosenTcnt.txBusy = s.txBusy := rfl
@[simp] theorem State.loosenTcnt_bitidx : s.loosenTcnt.bitidx = s.bitidx := rfl
@[simp] theorem State.loosenTcnt_jt : s.loosenTcnt.jt = s.jt := rfl
@[simp] theorem State.loosenTcnt_prev : s.loosenTcnt.prev = s.prev := rfl
@[simp] theorem State.loosenTcnt_next : s.loosenTcnt.next = s.next := rfl
@[simp] theorem State.loosenTcnt_budget : s.loosenTcnt.budget = s.budget := rfl
@[simp] theorem State.loosenTcnt_tcnt : s.loosenTcnt.tcnt = Config.freeTcnt s.freeCount := rfl
@[simp] theorem State.loosenTcnt_top : s.loosenTcnt.top = s.top := rfl
@[simp] theorem State.loosenTcnt_mode : s.loosenTcnt.mode = s.mode := rfl
@[simp] theorem State.loosenTcnt_run : s.loosenTcnt.run = s.run := rfl
@[simp] theorem State.loosenTcnt_flag : s.loosenTcnt.flag = s.flag := rfl
@[simp] theorem State.loosenTcnt_ie : s.loosenTcnt.ie = s.ie := rfl
@[simp] theorem State.loosenTcnt_gie : s.loosenTcnt.gie = s.gie := rfl
@[simp] theorem State.loosenTcnt_otherIrq : s.loosenTcnt.otherIrq = s.otherIrq := rfl
@[simp] theorem State.loosenTcnt_dir : s.loosenTcnt.dir = s.dir := rfl
@[simp] theorem State.loosenTcnt_out : s.loosenTcnt.out = s.out := rfl
@[simp] theorem State.loosenTcnt_timingFault : s.loosenTcnt.timingFault = s.timingFault := rfl
@[simp] theorem State.loosenTcnt_lineIn : s.loosenTcnt.lineIn = s.lineIn := rfl
@[simp] theorem State.loosenTcnt_lineCount : s.loosenTcnt.lineCount = s.lineCount := rfl
@[simp] theorem State.loosenTcnt_ticksIn : s.loosenTcnt.ticksIn = s.ticksIn := rfl
@[simp] theorem State.loosenTcnt_freeCount : s.loosenTcnt.freeCount = s.freeCount + 1 := rfl
@[simp] theorem State.loosenTcnt_calls : s.loosenTcnt.calls = s.calls := rfl
@[simp] theorem State.loosenTcnt_resets : s.loosenTcnt.resets = s.resets := rfl
@[simp] theorem State.loosenTcnt_ready : s.loosenTcnt.ready = s.ready := rfl
@[simp] theorem State.loosenTcnt_ret : s.loosenTcnt.ret = s.ret := rfl

@[simp] theorem State.setDir_cfg (d : Dir) : (s.setDir d).cfg = s.cfg := rfl
@[simp] theorem State.setDir_cmd (d : Dir) : (s.setDir d).cmd = s.cmd := rfl
@[simp] theorem State.setDir_acc (d : Dir) : (s.setDir d).acc = s.acc := rfl
@[simp] theorem State.setDir_resp (d : Dir) : (s.setDir d).resp = s.resp := rfl
@[simp] theorem State.setDir_carry (d : Dir) : (s.setDir d).carry = s.carry := rfl
@[simp] theorem State.setDir_done (d : Dir) : (s.setDir d).done = s.done := rfl
@[simp] theorem State.setDir_phase (d : Dir) : (s.setDir d).phase = s.phase := rfl
@[simp] theorem State.setDir_txi (d : Dir) : (s.setDir d).txi = s.txi := rfl
@[simp] theorem State.setDir_txph (d : Dir) : (s.setDir d).txph = s.txph := rfl
@[simp] theorem State.setDir_txcnt (d : Dir) : (s.setDir d).txcnt = s.txcnt := rfl
@[simp] theorem State.setDir_txSrc (d : Dir) : (s.setDir d).txSrc = s.txSrc := rfl
@[simp] theorem State.setDir_txBusy (d : Dir) : (s.setDir d).txBusy = s.txBusy := rfl
@[simp] theorem State.setDir_bitidx (d : Dir) : (s.setDir d).bitidx = s.bitidx := rfl
@[simp] theorem State.setDir_jt (d : Dir) : (s.setDir d).jt = s.jt := rfl
@[simp] theorem State.setDir_prev (d : Dir) : (s.setDir d).prev = s.prev := rfl
@[simp] theorem State.setDir_next (d : Dir) : (s.setDir d).next = s.next := rfl
@[simp] theorem State.setDir_budget (d : Dir) : (s.setDir d).budget = s.budget := rfl
@[simp] theorem State.setDir_tcnt (d : Dir) : (s.setDir d).tcnt = s.tcnt := rfl
@[simp] theorem State.setDir_top (d : Dir) : (s.setDir d).top = s.top := rfl
@[simp] theorem State.setDir_mode (d : Dir) : (s.setDir d).mode = s.mode := rfl
@[simp] theorem State.setDir_run (d : Dir) : (s.setDir d).run = s.run := rfl
@[simp] theorem State.setDir_flag (d : Dir) : (s.setDir d).flag = s.flag := rfl
@[simp] theorem State.setDir_ie (d : Dir) : (s.setDir d).ie = s.ie := rfl
@[simp] theorem State.setDir_gie (d : Dir) : (s.setDir d).gie = s.gie := rfl
@[simp] theorem State.setDir_otherIrq (d : Dir) : (s.setDir d).otherIrq = s.otherIrq := rfl
@[simp] theorem State.setDir_dir (d : Dir) : (s.setDir d).dir = d := rfl
@[simp] theorem State.setDir_out (d : Dir) : (s.setDir d).out = s.out := rfl
@[simp] theorem State.setDir_timingFault (d : Dir) : (s.setDir d).timingFault = s.timingFault := rfl
@[simp] theorem State.setDir_lineIn (d : Dir) : (s.setDir d).lineIn = s.lineIn := rfl
@[simp] theorem State.setDir_lineCount (d : Dir) : (s.setDir d).lineCount = s.lineCount := rfl
@[simp] theorem State.setDir_ticksIn (d : Dir) : (s.setDir d).ticksIn = s.ticksIn := rfl
@[simp] theorem State.setDir_freeCount (d : Dir) : (s.setDir d).freeCount = s.freeCount := rfl
@[simp] theorem State.setDir_calls (d : Dir) : (s.setDir d).calls = s.calls := rfl
@[simp] theorem State.setDir_resets (d : Dir) : (s.setDir d).resets = s.resets := rfl
@[simp] theorem State.setDir_ready (d : Dir) : (s.setDir d).ready = s.ready := rfl
@[simp] theorem State.setDir_ret (d : Dir) : (s.setDir d).ret = s.ret := rfl

@[simp] theorem State.finish_cfg (r : BitVec 16) : (s.finish r).cfg = s.cfg := rfl
@[simp] theorem State.finish_cmd (r : BitVec 16) : (s.finish r).cmd = s.cmd := rfl
@[simp] theorem State.finish_acc (r : BitVec 16) : (s.finish r).acc = s.acc := rfl
@[simp] theorem State.finish_resp (r : BitVec 16) : (s.finish r).resp = r := rfl
@[simp] theorem State.finish_carry (r : BitVec 16) : (s.finish r).carry = s.carry := rfl
@[simp] theorem State.finish_done (r : BitVec 16) : (s.finish r).done = true := rfl
@[simp] theorem State.finish_phase (r : BitVec 16) : (s.finish r).phase = .done := rfl
@[simp] theorem State.finish_txi (r : BitVec 16) : (s.finish r).txi = s.txi := rfl
@[simp] theorem State.finish_txph (r : BitVec 16) : (s.finish r).txph = s.txph := rfl
@[simp] theorem State.finish_txcnt (r : BitVec 16) : (s.finish r).txcnt = s.txcnt := rfl
@[simp] theorem State.finish_txSrc (r : BitVec 16) : (s.finish r).txSrc = s.txSrc := rfl
@[simp] theorem State.finish_txBusy (r : BitVec 16) : (s.finish r).txBusy = s.txBusy := rfl
@[simp] theorem State.finish_bitidx (r : BitVec 16) : (s.finish r).bitidx = s.bitidx := rfl
@[simp] theorem State.finish_jt (r : BitVec 16) : (s.finish r).jt = s.jt := rfl
@[simp] theorem State.finish_prev (r : BitVec 16) : (s.finish r).prev = s.prev := rfl
@[simp] theorem State.finish_next (r : BitVec 16) : (s.finish r).next = s.next := rfl
@[simp] theorem State.finish_budget (r : BitVec 16) : (s.finish r).budget = s.budget := rfl
@[simp] theorem State.finish_tcnt (r : BitVec 16) : (s.finish r).tcnt = s.tcnt := rfl
@[simp] theorem State.finish_top (r : BitVec 16) : (s.finish r).top = s.top := rfl
@[simp] theorem State.finish_mode (r : BitVec 16) : (s.finish r).mode = s.mode := rfl
@[simp] theorem State.finish_run (r : BitVec 16) : (s.finish r).run = s.run := rfl
@[simp] theorem State.finish_flag (r : BitVec 16) : (s.finish r).flag = s.flag := rfl
@[simp] theorem State.finish_ie (r : BitVec 16) : (s.finish r).ie = s.ie := rfl
@[simp] theorem State.finish_gie (r : BitVec 16) : (s.finish r).gie = s.gie := rfl
@[simp] theorem State.finish_otherIrq (r : BitVec 16) : (s.finish r).otherIrq = s.otherIrq := rfl
@[simp] theorem State.finish_dir (r : BitVec 16) : (s.finish r).dir = s.dir := rfl
@[simp] theorem State.finish_out (r : BitVec 16) : (s.finish r).out = s.out := rfl
@[simp] theorem State.finish_timingFault (r : BitVec 16) : (s.finish r).timingFault = s.timingFault := rfl
@[simp] theorem State.finish_lineIn (r : BitVec 16) : (s.finish r).lineIn = s.lineIn := rfl
@[simp] theorem State.finish_lineCount (r : BitVec 16) : (s.finish r).lineCount = s.lineCount := rfl
@[simp] theorem State.finish_ticksIn (r : BitVec 16) : (s.finish r).ticksIn = s.ticksIn := rfl
@[simp] theorem State.finish_freeCount (r : BitVec 16) : (s.finish r).freeCount = s.freeCount := rfl
@[simp] theorem State.finish_calls (r : BitVec 16) : (s.finish r).calls = s.calls := rfl
@[simp] theorem State.finish_resets (r : BitVec 16) : (s.finish r).resets = s.resets := rfl
@[simp] theorem State.finish_ready (r : BitVec 16) : (s.finish r).ready = s.ready := rfl
@[simp] theorem State.finish_ret (r : BitVec 16) : (s.finish r).ret = .response r := rfl

@[simp] theorem State.shifted_cfg (l : Level) : (s.shifted l).cfg = s.cfg := rfl
@[simp] theorem State.shifted_cmd (l : Level) : (s.shifted l).cmd = s.cmd := rfl
@[simp] theorem State.shifted_acc (l : Level) : (s.shifted l).acc = shiftAcc s.acc l := rfl
@[simp] theorem State.shifted_resp (l : Level) : (s.shifted l).resp = s.resp := rfl
@[simp] theorem State.shifted_carry (l : Level) : (s.shifted l).carry = shiftCarry s.acc := rfl
@[simp] theorem State.shifted_done (l : Level) : (s.shifted l).done = s.done := rfl
@[simp] theorem State.shifted_phase (l : Level) : (s.shifted l).phase = s.phase := rfl
@[simp] theorem State.shifted_txi (l : Level) : (s.shifted l).txi = s.txi := rfl
@[simp] theorem State.shifted_txph (l : Level) : (s.shifted l).txph = s.txph := rfl
@[simp] theorem State.shifted_txcnt (l : Level) : (s.shifted l).txcnt = s.txcnt := rfl
@[simp] theorem State.shifted_txSrc (l : Level) : (s.shifted l).txSrc = s.txSrc := rfl
@[simp] theorem State.shifted_txBusy (l : Level) : (s.shifted l).txBusy = s.txBusy := rfl
@[simp] theorem State.shifted_bitidx (l : Level) : (s.shifted l).bitidx = s.bitidx + 1 := rfl
@[simp] theorem State.shifted_jt (l : Level) : (s.shifted l).jt = s.jt := rfl
@[simp] theorem State.shifted_prev (l : Level) : (s.shifted l).prev = s.prev := rfl
@[simp] theorem State.shifted_next (l : Level) : (s.shifted l).next = s.cfg.tb := rfl
@[simp] theorem State.shifted_budget (l : Level) : (s.shifted l).budget = s.budget := rfl
@[simp] theorem State.shifted_tcnt (l : Level) : (s.shifted l).tcnt = s.tcnt := rfl
@[simp] theorem State.shifted_top (l : Level) : (s.shifted l).top = s.top := rfl
@[simp] theorem State.shifted_mode (l : Level) : (s.shifted l).mode = s.mode := rfl
@[simp] theorem State.shifted_run (l : Level) : (s.shifted l).run = s.run := rfl
@[simp] theorem State.shifted_flag (l : Level) : (s.shifted l).flag = s.flag := rfl
@[simp] theorem State.shifted_ie (l : Level) : (s.shifted l).ie = s.ie := rfl
@[simp] theorem State.shifted_gie (l : Level) : (s.shifted l).gie = s.gie := rfl
@[simp] theorem State.shifted_otherIrq (l : Level) : (s.shifted l).otherIrq = s.otherIrq := rfl
@[simp] theorem State.shifted_dir (l : Level) : (s.shifted l).dir = s.dir := rfl
@[simp] theorem State.shifted_out (l : Level) : (s.shifted l).out = s.out := rfl
@[simp] theorem State.shifted_timingFault (l : Level) : (s.shifted l).timingFault = s.timingFault := rfl
@[simp] theorem State.shifted_lineIn (l : Level) : (s.shifted l).lineIn = s.lineIn := rfl
@[simp] theorem State.shifted_lineCount (l : Level) : (s.shifted l).lineCount = s.lineCount := rfl
@[simp] theorem State.shifted_ticksIn (l : Level) : (s.shifted l).ticksIn = s.ticksIn := rfl
@[simp] theorem State.shifted_freeCount (l : Level) : (s.shifted l).freeCount = s.freeCount := rfl
@[simp] theorem State.shifted_calls (l : Level) : (s.shifted l).calls = s.calls := rfl
@[simp] theorem State.shifted_resets (l : Level) : (s.shifted l).resets = s.resets := rfl
@[simp] theorem State.shifted_ready (l : Level) : (s.shifted l).ready = s.ready := rfl
@[simp] theorem State.shifted_ret (l : Level) : (s.shifted l).ret = s.ret := rfl

@[simp] theorem State.completed_cfg : s.completed.cfg = s.cfg := rfl
@[simp] theorem State.completed_cmd : s.completed.cmd = s.cmd := rfl
@[simp] theorem State.completed_acc : s.completed.acc = s.acc := rfl
@[simp] theorem State.completed_resp : s.completed.resp = decodeResponse s.cfg s.acc := rfl
@[simp] theorem State.completed_carry : s.completed.carry = s.carry := rfl
@[simp] theorem State.completed_done : s.completed.done = true := rfl
@[simp] theorem State.completed_phase : s.completed.phase = .done := rfl
@[simp] theorem State.completed_txi : s.completed.txi = s.txi := rfl
@[simp] theorem State.completed_txph : s.completed.txph = s.txph := rfl
@[simp] theorem State.completed_txcnt : s.completed.txcnt = s.txcnt := rfl
@[simp] theorem State.completed_txSrc : s.completed.txSrc = s.txSrc := rfl
@[simp] theorem State.completed_txBusy : s.completed.txBusy = s.txBusy := rfl
@[simp] theorem State.completed_bitidx : s.completed.bitidx = s.bitidx := rfl
@[simp] theorem State.completed_jt : s.completed.jt = s.jt := rfl
@[simp] theorem State.completed_prev : s.completed.prev = s.prev := rfl
@[simp] theorem State.completed_next : s.completed.next = s.next := rfl
@[simp] theorem State.completed_budget : s.completed.budget = s.budget := rfl
@[simp] theorem State.completed_tcnt : s.completed.tcnt = s.tcnt := rfl
@[simp] theorem State.completed_top : s.completed.top = s.top := rfl
@[simp] theorem State.completed_mode : s.completed.mode = s.mode := rfl
@[simp] theorem State.completed_run : s.completed.run = false := rfl
@[simp] theorem State.completed_flag : s.completed.flag = s.flag := rfl
@[simp] theorem State.completed_ie : s.completed.ie = false := rfl
@[simp] theorem State.completed_gie : s.completed.gie = s.gie := rfl
@[simp] theorem State.completed_otherIrq : s.completed.otherIrq = s.otherIrq := rfl
@[simp] theorem State.completed_dir : s.completed.dir = s.dir := rfl
@[simp] theorem State.completed_out : s.completed.out = s.out := rfl
@[simp] theorem State.completed_timingFault : s.completed.timingFault = s.timingFault := rfl
@[simp] theorem State.completed_lineIn : s.completed.lineIn = s.lineIn := rfl
@[simp] theorem State.completed_lineCount : s.completed.lineCount = s.lineCount := rfl
@[simp] theorem State.completed_ticksIn : s.completed.ticksIn = s.ticksIn := rfl
@[simp] theorem State.completed_freeCount : s.completed.freeCount = s.freeCount := rfl
@[simp] theorem State.completed_calls : s.completed.calls = s.calls := rfl
@[simp] theorem State.completed_resets : s.completed.resets = s.resets := rfl
@[simp] theorem State.completed_ready : s.completed.ready = s.ready := rfl
@[simp] theorem State.completed_ret : s.completed.ret = .response (decodeResponse s.cfg s.acc) := rfl

@[simp] theorem State.armed_cfg : s.armed.cfg = s.cfg := rfl
@[simp] theorem State.armed_cmd : s.armed.cmd = s.cmd := rfl
@[simp] theorem State.armed_acc : s.armed.acc = 0x000010#24 := rfl
@[simp] theorem State.armed_resp : s.armed.resp = s.resp := rfl
@[simp] theorem State.armed_carry : s.armed.carry = s.carry := rfl
@[simp] theorem State.armed_done : s.armed.done = false := rfl
@[simp] theorem State.armed_phase : s.armed.phase = .waitingForFirstEdge := rfl
@[simp] theorem State.armed_txi : s.armed.txi = s.txi := rfl
@[simp] theorem State.armed_txph : s.armed.txph = s.txph := rfl
@[simp] theorem State.armed_txcnt : s.armed.txcnt = s.txcnt := rfl
@[simp] theorem State.armed_txSrc : s.armed.txSrc = s.txSrc := rfl
@[simp] theorem State.armed_txBusy : s.armed.txBusy = s.txBusy := rfl
@[simp] theorem State.armed_bitidx : s.armed.bitidx = 0 := rfl
@[simp] theorem State.armed_jt : s.armed.jt = s.jt := rfl
@[simp] theorem State.armed_prev : s.armed.prev = true := rfl
@[simp] theorem State.armed_next : s.armed.next = s.next := rfl
@[simp] theorem State.armed_budget : s.armed.budget = s.cfg.nTo := rfl
@[simp] theorem State.armed_tcnt : s.armed.tcnt = 0#8 := rfl
@[simp] theorem State.armed_top : s.armed.top = s.top := rfl
@[simp] theorem State.armed_mode : s.armed.mode = .max := rfl
@[simp] theorem State.armed_run : s.armed.run = true := rfl
@[simp] theorem State.armed_flag : s.armed.flag = false := rfl
@[simp] theorem State.armed_ie : s.armed.ie = false := rfl
@[simp] theorem State.armed_gie : s.armed.gie = s.gie := rfl
@[simp] theorem State.armed_otherIrq : s.armed.otherIrq = s.otherIrq := rfl
@[simp] theorem State.armed_dir : s.armed.dir = s.dir := rfl
@[simp] theorem State.armed_out : s.armed.out = s.out := rfl
@[simp] theorem State.armed_timingFault : s.armed.timingFault = s.timingFault := rfl
@[simp] theorem State.armed_lineIn : s.armed.lineIn = s.lineIn := rfl
@[simp] theorem State.armed_lineCount : s.armed.lineCount = s.lineCount := rfl
@[simp] theorem State.armed_ticksIn : s.armed.ticksIn = s.ticksIn := rfl
@[simp] theorem State.armed_freeCount : s.armed.freeCount = s.freeCount := rfl
@[simp] theorem State.armed_calls : s.armed.calls = s.calls := rfl
@[simp] theorem State.armed_resets : s.armed.resets = s.resets := rfl
@[simp] theorem State.armed_ready : s.armed.ready = s.ready := rfl
@[simp] theorem State.armed_ret : s.armed.ret = .unit := rfl

/-- The input spent by a step: the head of `lineIn` while DIR = In. -/
@[simp] theorem State.nextLevel_lineIn :
    s.nextLevel.lineIn = match s.dir with | .output => s.lineIn | .input => s.lineIn.tail := by
  cases h : s.dir <;> simp [State.nextLevel, h]

@[simp] theorem State.nextLevel_lineCount :
    s.nextLevel.lineCount = match s.dir with | .output => s.lineCount | .input => s.lineCount + 1 := by
  cases h : s.dir <;> simp [State.nextLevel, h]

@[simp] theorem State.nextLevel_cfg : s.nextLevel.cfg = s.cfg := by cases h : s.dir <;> simp [State.nextLevel, h]
@[simp] theorem State.nextLevel_cmd : s.nextLevel.cmd = s.cmd := by cases h : s.dir <;> simp [State.nextLevel, h]
@[simp] theorem State.nextLevel_acc : s.nextLevel.acc = s.acc := by cases h : s.dir <;> simp [State.nextLevel, h]
@[simp] theorem State.nextLevel_resp : s.nextLevel.resp = s.resp := by cases h : s.dir <;> simp [State.nextLevel, h]
@[simp] theorem State.nextLevel_carry : s.nextLevel.carry = s.carry := by cases h : s.dir <;> simp [State.nextLevel, h]
@[simp] theorem State.nextLevel_done : s.nextLevel.done = s.done := by cases h : s.dir <;> simp [State.nextLevel, h]
@[simp] theorem State.nextLevel_phase : s.nextLevel.phase = s.phase := by cases h : s.dir <;> simp [State.nextLevel, h]
@[simp] theorem State.nextLevel_txi : s.nextLevel.txi = s.txi := by cases h : s.dir <;> simp [State.nextLevel, h]
@[simp] theorem State.nextLevel_txph : s.nextLevel.txph = s.txph := by cases h : s.dir <;> simp [State.nextLevel, h]
@[simp] theorem State.nextLevel_txcnt : s.nextLevel.txcnt = s.txcnt := by cases h : s.dir <;> simp [State.nextLevel, h]
@[simp] theorem State.nextLevel_txSrc : s.nextLevel.txSrc = s.txSrc := by cases h : s.dir <;> simp [State.nextLevel, h]
@[simp] theorem State.nextLevel_txBusy : s.nextLevel.txBusy = s.txBusy := by cases h : s.dir <;> simp [State.nextLevel, h]
@[simp] theorem State.nextLevel_bitidx : s.nextLevel.bitidx = s.bitidx := by cases h : s.dir <;> simp [State.nextLevel, h]
@[simp] theorem State.nextLevel_jt : s.nextLevel.jt = s.jt := by cases h : s.dir <;> simp [State.nextLevel, h]
@[simp] theorem State.nextLevel_prev : s.nextLevel.prev = s.prev := by cases h : s.dir <;> simp [State.nextLevel, h]
@[simp] theorem State.nextLevel_next : s.nextLevel.next = s.next := by cases h : s.dir <;> simp [State.nextLevel, h]
@[simp] theorem State.nextLevel_budget : s.nextLevel.budget = s.budget := by cases h : s.dir <;> simp [State.nextLevel, h]
@[simp] theorem State.nextLevel_tcnt : s.nextLevel.tcnt = s.tcnt := by cases h : s.dir <;> simp [State.nextLevel, h]
@[simp] theorem State.nextLevel_top : s.nextLevel.top = s.top := by cases h : s.dir <;> simp [State.nextLevel, h]
@[simp] theorem State.nextLevel_mode : s.nextLevel.mode = s.mode := by cases h : s.dir <;> simp [State.nextLevel, h]
@[simp] theorem State.nextLevel_run : s.nextLevel.run = s.run := by cases h : s.dir <;> simp [State.nextLevel, h]
@[simp] theorem State.nextLevel_flag : s.nextLevel.flag = s.flag := by cases h : s.dir <;> simp [State.nextLevel, h]
@[simp] theorem State.nextLevel_ie : s.nextLevel.ie = s.ie := by cases h : s.dir <;> simp [State.nextLevel, h]
@[simp] theorem State.nextLevel_gie : s.nextLevel.gie = s.gie := by cases h : s.dir <;> simp [State.nextLevel, h]
@[simp] theorem State.nextLevel_otherIrq : s.nextLevel.otherIrq = s.otherIrq := by cases h : s.dir <;> simp [State.nextLevel, h]
@[simp] theorem State.nextLevel_dir : s.nextLevel.dir = s.dir := by cases h : s.dir <;> simp [State.nextLevel, h]
@[simp] theorem State.nextLevel_out : s.nextLevel.out = s.out := by cases h : s.dir <;> simp [State.nextLevel, h]
@[simp] theorem State.nextLevel_timingFault : s.nextLevel.timingFault = s.timingFault := by cases h : s.dir <;> simp [State.nextLevel, h]
@[simp] theorem State.nextLevel_ticksIn : s.nextLevel.ticksIn = s.ticksIn := by cases h : s.dir <;> simp [State.nextLevel, h]
@[simp] theorem State.nextLevel_freeCount : s.nextLevel.freeCount = s.freeCount := by cases h : s.dir <;> simp [State.nextLevel, h]
@[simp] theorem State.nextLevel_calls : s.nextLevel.calls = s.calls := by cases h : s.dir <;> simp [State.nextLevel, h]
@[simp] theorem State.nextLevel_resets : s.nextLevel.resets = s.resets := by cases h : s.dir <;> simp [State.nextLevel, h]
@[simp] theorem State.nextLevel_ready : s.nextLevel.ready = s.ready := by cases h : s.dir <;> simp [State.nextLevel, h]
@[simp] theorem State.nextLevel_ret : s.nextLevel.ret = s.ret := by cases h : s.dir <;> simp [State.nextLevel, h]

end Sys2Proof.Machine
end

