-- ==== Sys2Proof/Laws/Ops.lean ====
section
/-! SUPPORT. For each shared operation, once, everything it can answer: what a later proof cites instead of unfolding it. -/

namespace Sys2Proof.Machine

open Sys2Proof

/-! ### Plumbing -/

@[simp] theorem andThen_next (s : State) (f : State → Result) : andThen (.next s) f = f s := rfl
@[simp] theorem andThen_fault (e : Fault) (f : State → Result) : andThen (.fault e) f = .fault e := rfl
@[simp] theorem andThen_refused (e : Refusal) (f : State → Result) : andThen (.refused e) f = .refused e := rfl

theorem andThen_eq_next {r : Result} {f : State → Result} {t : State} :
    andThen r f = .next t ↔ ∃ s, r = .next s ∧ f s = .next t := by
  cases r <;> simp

@[simp] theorem onlyIf_true (r : Result) : onlyIf true r = r := rfl

theorem onlyIf_eq_next {b : Bool} {r : Result} {t : State} : onlyIf b r = .next t ↔ b = true ∧ r = .next t := by
  cases b <;> simp [onlyIf]

theorem asHost_eq_next {s t : State} {r : Result} : asHost s r = .next t ↔ s.hostTurn = true ∧ r = .next t := by
  cases h : s.hostTurn <;> simp [asHost, h]

theorem asHost_of_turn {s : State} (h : s.hostTurn = true) (r : Result) : asHost s r = r := by simp [asHost, h]

theorem asHost_busy {s : State} (h : s.hostTurn = false) (r : Result) : asHost s r = .refused .busy := by simp [asHost, h]

theorem hostWrite_of_turn {s t : State} (h : s.hostTurn = true) : hostWrite s t = .next (t.returning .unit) := by
  simp [hostWrite, asHost, h]

theorem hostWrite_eq_next {s t u : State} :
    hostWrite s t = .next u ↔ s.hostTurn = true ∧ u = t.returning .unit := by
  rw [hostWrite, asHost_eq_next, Host.Outcome.next.injEq, eq_comm (a := u)]

@[simp] theorem answer_eq (v : Value) (s : State) : answer v s = .next (s.returning v) := rfl

theorem hostTurn_iff {s : State} : s.hostTurn = true ↔ s.phase.isHosts = true ∧ s.txBusy = false := by
  simp [State.hostTurn]

theorem isHosts_iff {p : Phase} : p.isHosts = true ↔ p = .idle ∨ p = .done := by cases p <;> simp [Phase.isHosts]

/-! ### The timer -/

/-- A tick counts on, or restarts the counter and sets FLAG. -/
theorem ticked_cases (s : State) :
    (s.tcnt = s.limit ∧ s.ticked = { s with tcnt := 0#8, flag := true }) ∨
    (s.tcnt ≠ s.limit ∧ s.ticked = { s with tcnt := s.tcnt + 1#8 }) := by
  by_cases h : s.tcnt = s.limit
  · exact .inl ⟨h, by simp [State.ticked, State.tickCount, State.tickSetsFlag, h]⟩
  · exact .inr ⟨h, by simp [State.ticked, State.tickCount, State.tickSetsFlag, h]⟩

@[simp] theorem limit_max {s : State} (h : s.mode = .max) : s.limit = 255#8 := by simp [State.limit, h]

@[simp] theorem limit_short {s : State} (h : s.mode = .short) : s.limit = s.top := by simp [State.limit, h]

/-! ### The sampler -/

/-- The sampling step returns to the loop, or completes the receive when the marker leaves as the carry. -/
theorem sampled_cases (s : State) (l : Level) :
    (shiftCarry s.acc = false ∧ s.sampled l = s.shifted l) ∨
    (shiftCarry s.acc = true ∧ s.sampled l = (s.shifted l).completed) := by
  cases h : shiftCarry s.acc
  · exact .inl ⟨rfl, by simp [State.sampled, h]⟩
  · exact .inr ⟨rfl, by simp [State.sampled, h]⟩

/-- Interrupt entry goes on exactly through JT = ReadBit. -/
theorem takeInterrupt_eq_next {s t : State} :
    takeInterrupt s = .next t ↔ s.jt = .readBit ∧ t = ((s.setFlag false).sampled s.pinRead).nextLevel := by
  cases h : s.jt <;> simp [takeInterrupt, h, eq_comm]

/-- Bit i of ACC after the shift: the level at bit 0, the bit below elsewhere. -/
theorem shiftAcc_getLsbD (acc : BitVec 24) (l : Level) (i : Nat) (h : i < 24) :
    (shiftAcc acc l).getLsbD i = if i = 0 then l else acc.getLsbD (i - 1) := by
  rcases i with _ | i
  · simp [shiftAcc]
  · simp [shiftAcc, h, -BitVec.getLsbD_eq_getElem]

/-- ACC after the shift, as a concatenation. -/
theorem shiftAcc_append (acc : BitVec 24) (l : Level) : shiftAcc acc l = acc.extractLsb' 0 23 ++ BitVec.ofBool l := by
  apply BitVec.eq_of_getLsbD_eq; intro i hi
  rw [shiftAcc_getLsbD _ _ _ hi, BitVec.getLsbD_append]
  rcases i with _ | i
  · cases l <;> rfl
  · simp [-BitVec.getLsbD_eq_getElem, show i < 23 by omega]

/-! ### The encoder -/

/-- Launching sends nothing, or opens the first window. -/
theorem launched_cases (s : State) (src : TxSrc) :
    (({ s with txSrc := src, txi := 0 } : State).txBits = 0 ∧
      s.launched src = { s with txSrc := src, txi := 0, out := false }) ∨
    (({ s with txSrc := src, txi := 0 } : State).txBits ≠ 0 ∧
      s.launched src =
        { s with txSrc := src, txi := 0, out := true, txph := .winA, txcnt := s.cfg.txA, txBusy := true }) := by
  by_cases h : ({ s with txSrc := src, txi := 0 } : State).txBits = 0
  · exact .inl ⟨h, by simp only [State.launched, h, if_true]⟩
  · exact .inr ⟨h, by simp only [State.launched, h, if_false]⟩

/-- The encoder's part of a cycle, case by case. -/
theorem encoderCycle_count {s : State} (h : 1 < s.txcnt) : s.encoderCycle = { s with txcnt := s.txcnt - 1 } := by
  simp [State.encoderCycle, h]

theorem encoderCycle_winA {s : State} (h : s.txcnt ≤ 1) (hp : s.txph = .winA) :
    s.encoderCycle = { s with out := s.out && s.txBit, txph := .winB, txcnt := s.cfg.txB } := by
  simp [State.encoderCycle, Nat.not_lt.mpr h, hp]

theorem encoderCycle_winB {s : State} (h : s.txcnt ≤ 1) (hp : s.txph = .winB) :
    s.encoderCycle = { s with out := false, txph := .winC, txcnt := s.cfg.txC } := by
  simp [State.encoderCycle, Nat.not_lt.mpr h, hp]

theorem encoderCycle_next {s : State} (h : s.txcnt ≤ 1) (hp : s.txph = .winC) (hn : s.txi + 1 ≠ s.txBits) :
    s.encoderCycle = { s with txi := s.txi + 1, out := true, txph := .winA, txcnt := s.cfg.txA } := by
  simp only [State.encoderCycle, Nat.not_lt.mpr h, hp, hn, if_false]

theorem encoderCycle_last {s : State} (h : s.txcnt ≤ 1) (hp : s.txph = .winC) (hn : s.txi + 1 = s.txBits) :
    s.encoderCycle = s.txFinished := by
  simp only [State.encoderCycle, Nat.not_lt.mpr h, hp, hn, if_true, if_false]

/-- The encoder does not look at the timer's count and flag, nor at the input of its ticks. -/
theorem encoderCycle_timer (s : State) (v : Byte) (f : Bool) (l : List Bool) (n : Nat) :
    ({ s with tcnt := v, flag := f, ticksIn := l, freeCount := n } : State).encoderCycle =
      { s.encoderCycle with tcnt := v, flag := f, ticksIn := l, freeCount := n } := by
  by_cases h : 1 < s.txcnt
  · rw [encoderCycle_count h, encoderCycle_count (by exact h)]
  · have h := Nat.not_lt.mp h
    have hc : s.txph = .winA ∨ s.txph = .winB ∨ s.txph = .winC := by cases s.txph <;> simp
    rcases hc with hp | hp | hp
    · rw [encoderCycle_winA h hp, encoderCycle_winA (by exact h) (by exact hp)]; rfl
    · rw [encoderCycle_winB h hp, encoderCycle_winB (by exact h) (by exact hp)]
    · by_cases hn : s.txi + 1 = s.txBits
      · rw [encoderCycle_last h hp hn, encoderCycle_last (by exact h) (by exact hp) (by exact hn)]; rfl
      · rw [encoderCycle_next h hp hn, encoderCycle_next (by exact h) (by exact hp) (by exact hn)]

/-- The timer counts in a cycle only while RUN = 1. -/
theorem tickDue_run {s : State} (h : s.tickDue = true) : s.run = true := by
  simp only [State.tickDue, Bool.and_eq_true] at h
  exact h.1

/-- With RUN = 0 no cycle is a tick; with RUN = 1 a cycle is one as its input says. -/
theorem tickDue_off {s : State} (h : s.run = false) : s.tickDue = false := by simp [State.tickDue, h]

theorem tickDue_input {s : State} {b : Bool} {rest : List Bool} (h : s.run = true) (hi : s.ticksIn = b :: rest) :
    s.tickDue = b := by simp [State.tickDue, h, hi]

theorem nextCycle_off {s : State} (h : s.run = false) : s.nextCycle = s := by simp [State.nextCycle, h]

theorem nextCycle_on {s : State} (h : s.run = true) :
    s.nextCycle = { s with ticksIn := s.ticksIn.tail, freeCount := s.freeCount + 1 } := by simp [State.nextCycle, h]

/-- The timer's part of a cycle: the count of a tick or none, and the input spent while RUN = 1. -/
theorem cycleTicked_cases (s : State) :
    (s.run = false ∧ s.cycleTicked = s) ∨
    (s.run = true ∧ s.tickDue = false ∧
      s.cycleTicked = { s with ticksIn := s.ticksIn.tail, freeCount := s.freeCount + 1 }) ∨
    (s.run = true ∧ s.tickDue = true ∧
      s.cycleTicked = { s.ticked with ticksIn := s.ticksIn.tail, freeCount := s.freeCount + 1 }) := by
  rcases Bool.eq_false_or_eq_true s.run with hr | hr
  · rcases Bool.eq_false_or_eq_true s.tickDue with hd | hd
    · exact .inr (.inr ⟨hr, hd, by rw [State.cycleTicked, if_pos hd]; exact nextCycle_on (s := s.ticked) hr⟩)
    · exact .inr (.inl ⟨hr, hd, by rw [State.cycleTicked, hd]; exact nextCycle_on hr⟩)
  · exact .inl ⟨hr, by rw [State.cycleTicked, tickDue_off hr]; exact nextCycle_off hr⟩

/-- A cycle goes on exactly where its tick is defined and leaves no interrupt pending. -/
theorem txCycle_eq_next {s t : State} :
    s.txCycle = .next t ↔
      (s.tickDue = true → s.overTop = false) ∧ s.cycleTicked.pending = false ∧ t = s.cycleTicked.encoderCycle := by
  unfold State.txCycle
  cases hd : s.tickDue <;> cases ho : s.overTop <;> cases hp : s.cycleTicked.pending <;> simp [eq_comm]

/-! ### Which fields a shared operation writes -/

theorem nextLevel_out {s : State} (h : s.dir = .output) : s.nextLevel = s := by simp [State.nextLevel, h]

theorem nextLevel_in {s : State} (h : s.dir = .input) :
    s.nextLevel = { s with lineIn := s.lineIn.tail, lineCount := s.lineCount + 1 } := by simp [State.nextLevel, h]

theorem nextLevel_fields (s : State) : ∃ l n, s.nextLevel = { s with lineIn := l, lineCount := n } := by
  unfold State.nextLevel; split <;> exact ⟨_, _, rfl⟩

theorem launched_fields (s : State) (src : TxSrc) :
    ∃ o p c b, s.launched src = { s with txSrc := src, txi := 0, out := o, txph := p, txcnt := c, txBusy := b } := by
  rcases launched_cases s src with ⟨-, h⟩ | ⟨-, h⟩ <;> rw [h] <;> exact ⟨_, _, _, _, rfl⟩

theorem encoderCycle_fields (s : State) :
    ∃ i o p c b, s.encoderCycle = { s with txi := i, out := o, txph := p, txcnt := c, txBusy := b } := by
  unfold State.encoderCycle
  split
  · exact ⟨_, _, _, _, _, rfl⟩
  · split
    · exact ⟨_, _, _, _, _, rfl⟩
    · exact ⟨_, _, _, _, _, rfl⟩
    · split <;> exact ⟨_, _, _, _, _, rfl⟩

theorem cycleTicked_fields (s : State) :
    ∃ v f l n, s.cycleTicked = { s with tcnt := v, flag := f, ticksIn := l, freeCount := n } := by
  rcases cycleTicked_cases s with ⟨-, h⟩ | ⟨-, -, h⟩ | ⟨-, -, h⟩ <;> rw [h] <;> exact ⟨_, _, _, _, rfl⟩

theorem txCycle_fields {s t : State} (h : s.txCycle = .next t) :
    ∃ i o p c b v f l n, t =
      { s with
        txi := i, out := o, txph := p, txcnt := c, txBusy := b, tcnt := v, flag := f, ticksIn := l, freeCount := n } := by
  obtain ⟨-, -, rfl⟩ := txCycle_eq_next.mp h
  obtain ⟨v, f, l, n, e⟩ := cycleTicked_fields s
  obtain ⟨i, o, p, c, b, e'⟩ := encoderCycle_fields s.cycleTicked
  rw [e', e]
  exact ⟨_, _, _, _, _, _, _, _, _, rfl⟩

theorem sampled_fields (s : State) (l : Level) :
    ∃ c a b n ie r resp d p ret, s.sampled l =
      { s with
        carry := c, acc := a, bitidx := b, next := n, ie := ie, run := r, resp := resp, done := d, phase := p,
        ret := ret } := by
  rcases sampled_cases s l with ⟨-, h⟩ | ⟨-, h⟩ <;> rw [h] <;> exact ⟨_, _, _, _, _, _, _, _, _, _, rfl⟩

theorem takeInterrupt_fields {s t : State} (h : takeInterrupt s = .next t) :
    ∃ c a b n ie r resp d p ret l m, t =
      { s with
        flag := false, carry := c, acc := a, bitidx := b, next := n, ie := ie, run := r, resp := resp, done := d,
        phase := p, ret := ret, lineIn := l, lineCount := m } := by
  obtain ⟨-, rfl⟩ := takeInterrupt_eq_next.mp h
  obtain ⟨c, a, b, n, ie, r, resp, d, p, ret, e⟩ := sampled_fields (s.setFlag false) s.pinRead
  obtain ⟨l, m, e'⟩ := nextLevel_fields ((s.setFlag false).sampled s.pinRead)
  rw [e', e]
  exact ⟨_, _, _, _, _, _, _, _, _, _, _, _, rfl⟩

/-! ### The codec -/

theorem fromRawValue_of_range {c : Int} (h : 0 ≤ c ∧ c ≤ 2047) (t : Bool) (s : State) :
    fromRawValue c t s = .next (s.returning (.command (packCommand s.cfg.inv (BitVec.ofNat 11 c.toNat) t))) := by
  simp [fromRawValue, h]

theorem clampThrottle_range (n : Int) : 0 ≤ clampThrottle n ∧ clampThrottle n ≤ 1999 := by
  unfold clampThrottle; split <;> [skip; split] <;> omega

/-- SCALE_ROUND goes to one of the two integers around the fraction, and fixes the integers. -/
theorem scaleRound_bounds (cuts : List Cut) (p d : Nat) :
    p / d ≤ scaleRound cuts p d ∧ scaleRound cuts p d ≤ p / d + 1 ∧ (p % d = 0 → scaleRound cuts p d = p / d) := by
  unfold scaleRound
  refine ⟨?_, ?_, fun h => by simp [h]⟩ <;> · split <;> [skip; split <;> [skip; split]] <;> omega

end Sys2Proof.Machine
end

