-- ==== Sys2Proof/Laws/PerInstr.lean ====
section
/-! SUPPORT. Statements about every instruction, made per constructor: the range its first byte lies in
(spec/30_encoding.md R89). -/

/-- The block's own steps are the identifiers 0x80..0x8F; every other instruction's first byte lies outside them. -/
def Sys2Proof.Laws.StepRange.Statement (i : Sys2Proof.Instr) : Prop :=
  i.isStep = true ↔ 0x80 ≤ i.opByte.toNat ∧ i.opByte.toNat ≤ 0x8F

namespace Sys2Proof.Laws.StepRange

open Sys2Proof

/-- The statement as one closed check: it does not look at the operands. -/
theorem of_check {i : Instr} (h : (i.isStep == (decide (0x80 ≤ i.opByte.toNat) && decide (i.opByte.toNat ≤ 0x8F))) = true) :
    Statement i := by
  rw [beq_iff_eq] at h
  rw [Statement, h, Bool.and_eq_true, decide_eq_true_iff, decide_eq_true_iff]

theorem init : Statement (.init) := of_check rfl
theorem sendCommand (command : BitVec 16) : Statement (.sendCommand command) := of_check rfl
theorem getResponse : Statement (.getResponse) := of_check rfl
theorem setCounter (value : Byte) : Statement (.setCounter value) := of_check rfl
theorem setMaxTimeout : Statement (.setMaxTimeout) := of_check rfl
theorem setShortTimeout : Statement (.setShortTimeout) := of_check rfl
theorem start : Statement (.start) := of_check rfl
theorem stop : Statement (.stop) := of_check rfl
theorem clearFlag : Statement (.clearFlag) := of_check rfl
theorem hasOverflowed : Statement (.hasOverflowed) := of_check rfl
theorem enableInterrupt : Statement (.enableInterrupt) := of_check rfl
theorem disableInterrupt : Statement (.disableInterrupt) := of_check rfl
theorem fromRaw (c : Int) (t : Bool) : Statement (.fromRaw c t) := of_check rfl
theorem fromThrottle (n : Int) (t : Bool) : Statement (.fromThrottle n t) := of_check rfl
theorem scaleToCommandMax (x : RealArg) : Statement (.scaleToCommandMax x) := of_check rfl
theorem fromNormalized (x : RealArg) (t : Bool) : Statement (.fromNormalized x t) := of_check rfl
theorem crc (c : BitVec 11) (t : Bool) : Statement (.crc c t) := of_check rfl
theorem fromSpecial (s : BitVec 6) (t : Bool) : Statement (.fromSpecial s t) := of_check rfl
theorem getRaw (command : BitVec 16) : Statement (.getRaw command) := of_check rfl
theorem send (bytes : List Byte) (bitCount : Nat) : Statement (.send bytes bitCount) := of_check rfl
theorem decode (acc : BitVec 24) : Statement (.decode acc) := of_check rfl
theorem unshift (v : BitVec 24) : Statement (.unshift v) := of_check rfl
theorem split (g : BitVec 24) : Statement (.split g) := of_check rfl
theorem gcrDecode (s : Symbol) : Statement (.gcrDecode s) := of_check rfl
theorem checksum (n3 n2 n1 n0 : Nibble) : Statement (.checksum n3 n2 n1 n0) := of_check rfl
theorem fromNibbles (n3 n2 n1 : Nibble) : Statement (.fromNibbles n3 n2 n1) := of_check rfl
theorem fromError (e : Error) : Statement (.fromError e) := of_check rfl
theorem isError (response : BitVec 16) : Statement (.isError response) := of_check rfl
theorem getError (response : BitVec 16) : Statement (.getError response) := of_check rfl
theorem getExponent (response : BitVec 16) : Statement (.getExponent response) := of_check rfl
theorem getBase (response : BitVec 16) : Statement (.getBase response) := of_check rfl
theorem getPeriodMicros (response : BitVec 16) : Statement (.getPeriodMicros response) := of_check rfl
theorem isStopped (response : BitVec 16) : Statement (.isStopped response) := of_check rfl
theorem isTelemetry (response : BitVec 16) : Statement (.isTelemetry response) := of_check rfl
theorem getTelemetryType (response : BitVec 16) : Statement (.getTelemetryType response) := of_check rfl
theorem getTelemetryValue (response : BitVec 16) : Statement (.getTelemetryValue response) := of_check rfl
theorem getRPM (response : BitVec 16) (polePairs : Nat) : Statement (.getRPM response polePairs) := of_check rfl
theorem tickMax : Statement (.tickMax) := of_check rfl
theorem tickShort : Statement (.tickShort) := of_check rfl
theorem txStep : Statement (.txStep) := of_check rfl
theorem rxWait : Statement (.rxWait) := of_check rfl
theorem rxOvf : Statement (.rxOvf) := of_check rfl
theorem rxTimeout : Statement (.rxTimeout) := of_check rfl
theorem rxFirstEdge : Statement (.rxFirstEdge) := of_check rfl
theorem rxCount : Statement (.rxCount) := of_check rfl
theorem rxEdge : Statement (.rxEdge) := of_check rfl
theorem rxSample : Statement (.rxSample) := of_check rfl
theorem rxComplete : Statement (.rxComplete) := of_check rfl
theorem rxCollide : Statement (.rxCollide) := of_check rfl
theorem irqEntry : Statement (.irqEntry) := of_check rfl
theorem cmd16Special0 (c : BitVec 5) (t : Bool) (crc : Nibble) : Statement (.cmd16Special0 c t crc) := of_check rfl
theorem cmd16Special32 (c : BitVec 4) (t : Bool) (crc : Nibble) : Statement (.cmd16Special32 c t crc) := of_check rfl
theorem cmd16Throttle (c : BitVec 11) (t : Bool) (crc : Nibble) : Statement (.cmd16Throttle c t crc) := of_check rfl
theorem gcr5_00000 : Statement (.gcr5_00000) := of_check rfl
theorem gcr5_00001 : Statement (.gcr5_00001) := of_check rfl
theorem gcr5_00010 : Statement (.gcr5_00010) := of_check rfl
theorem gcr5_00011 : Statement (.gcr5_00011) := of_check rfl
theorem gcr5_00100 : Statement (.gcr5_00100) := of_check rfl
theorem gcr5_00101 : Statement (.gcr5_00101) := of_check rfl
theorem gcr5_00110 : Statement (.gcr5_00110) := of_check rfl
theorem gcr5_00111 : Statement (.gcr5_00111) := of_check rfl
theorem gcr5_01000 : Statement (.gcr5_01000) := of_check rfl
theorem gcr5_01001 : Statement (.gcr5_01001) := of_check rfl
theorem gcr5_01010 : Statement (.gcr5_01010) := of_check rfl
theorem gcr5_01011 : Statement (.gcr5_01011) := of_check rfl
theorem gcr5_01100 : Statement (.gcr5_01100) := of_check rfl
theorem gcr5_01101 : Statement (.gcr5_01101) := of_check rfl
theorem gcr5_01110 : Statement (.gcr5_01110) := of_check rfl
theorem gcr5_01111 : Statement (.gcr5_01111) := of_check rfl
theorem gcr5_10000 : Statement (.gcr5_10000) := of_check rfl
theorem gcr5_10001 : Statement (.gcr5_10001) := of_check rfl
theorem gcr5_10010 : Statement (.gcr5_10010) := of_check rfl
theorem gcr5_10011 : Statement (.gcr5_10011) := of_check rfl
theorem gcr5_10100 : Statement (.gcr5_10100) := of_check rfl
theorem gcr5_10101 : Statement (.gcr5_10101) := of_check rfl
theorem gcr5_10110 : Statement (.gcr5_10110) := of_check rfl
theorem gcr5_10111 : Statement (.gcr5_10111) := of_check rfl
theorem gcr5_11000 : Statement (.gcr5_11000) := of_check rfl
theorem gcr5_11001 : Statement (.gcr5_11001) := of_check rfl
theorem gcr5_11010 : Statement (.gcr5_11010) := of_check rfl
theorem gcr5_11011 : Statement (.gcr5_11011) := of_check rfl
theorem gcr5_11100 : Statement (.gcr5_11100) := of_check rfl
theorem gcr5_11101 : Statement (.gcr5_11101) := of_check rfl
theorem gcr5_11110 : Statement (.gcr5_11110) := of_check rfl
theorem gcr5_11111 : Statement (.gcr5_11111) := of_check rfl
theorem resp16Error (low : BitVec 7) (code : Byte) : Statement (.resp16Error low code) := of_check rfl
theorem resp16Stopped : Statement (.resp16Stopped) := of_check rfl
theorem resp16Telemetry (rsv : BitVec 3) (tag : BitVec 3) (value : Byte) : Statement (.resp16Telemetry rsv tag value) := of_check rfl
theorem resp16Period (rsv : BitVec 3) (exponent : BitVec 3) (base : BitVec 9) : Statement (.resp16Period rsv exponent base) := of_check rfl
theorem err8None : Statement (.err8None) := of_check rfl
theorem err8ResponseTimeout : Statement (.err8ResponseTimeout) := of_check rfl
theorem err8BadDecodeFirstNibble : Statement (.err8BadDecodeFirstNibble) := of_check rfl
theorem err8BadDecodeSecondNibble : Statement (.err8BadDecodeSecondNibble) := of_check rfl
theorem err8BadDecodeThirdNibble : Statement (.err8BadDecodeThirdNibble) := of_check rfl
theorem err8BadDecodeFourthNibble : Statement (.err8BadDecodeFourthNibble) := of_check rfl
theorem err8BadChecksum : Statement (.err8BadChecksum) := of_check rfl

end Sys2Proof.Laws.StepRange
end

