-- ==== Sys2Proof/Laws/Step.lean ====
section
/-! SUPPORT. What one step can do: the inversion lemmas of the sequencer, and the runs of a machine. -/

namespace Sys2Proof.Machine

open Sys2Proof

/-! ### A step -/

theorem step_of_reset {s : State} {rest : List Nat} (h : s.resets = 0 :: rest) : step s = .next s.afterReset := by
  simp [step, stepOrReset, h]

theorem step_of_none {s : State} (h : s.resets = []) : step s = advance s := by simp [step, stepOrReset, h]

theorem step_of_later {s : State} {n : Nat} {rest : List Nat} (h : s.resets = (n + 1) :: rest) :
    step s = advance { s with resets := n :: rest } := by simp [step, stepOrReset, h]

/-- A step is the reset, or an advance of the state with the count to the next reset one less. -/
theorem step_cases (s : State) :
    (s.resets.head? = some 0 ∧ step s = .next s.afterReset) ∨ ∃ r, step s = advance { s with resets := r } := by
  rcases h : s.resets with _ | ⟨_ | n, rest⟩
  · exact .inr ⟨[], by rw [step_of_none h, ← h]⟩
  · exact .inl ⟨rfl, step_of_reset h⟩
  · exact .inr ⟨n :: rest, step_of_later h⟩

theorem advance_of_turn {s : State} (hf : s.timingFault = false) (h : s.hostTurn = true) : advance s = hostStep s := by
  simp [advance, hf, h]

theorem advance_of_own {s : State} {i : Instr} (hf : s.timingFault = false) (h : s.hostTurn = false)
    (hi : s.ownStep = some i) : advance s = exec i s := by
  simp [advance, hf, h, hi]

/-- An advance that goes on is the host's turn or one of the block's own steps. -/
theorem advance_cases {s t : State} (h : advance s = .next t) :
    s.timingFault = false ∧
      ((s.hostTurn = true ∧ hostStep s = .next t) ∨
       (s.hostTurn = false ∧ ∃ i, s.ownStep = some i ∧ exec i s = .next t)) := by
  unfold advance at h
  split at h
  · cases h
  · rename_i hf
    refine ⟨by simpa using hf, ?_⟩
    split at h
    · exact .inl ⟨‹_›, h⟩
    · refine .inr ⟨by simpa using ‹¬s.hostTurn = true›, ?_⟩
      split at h
      · exact ⟨_, ‹_›, h⟩
      · cases h

/-! ### The host's turn -/

theorem hasTick_iff {i : Instr} :
    hasTick i = true ↔
      ((∃ w, i = .sendCommand w) ∨ ∃ bytes n, i = .send bytes n) ∨
        i ∈ [Instr.setMaxTimeout, .setShortTimeout, .start, .stop, .clearFlag, .hasOverflowed, .enableInterrupt,
          .disableInterrupt, .irqEntry] := by
  rw [hasTick, Bool.or_eq_true]
  exact or_congr (by cases i <;> simp [launchesSend]) (by cases i <;> simp [keepsCount])

/-- The tick beside a call changes nothing, or counts from the state before the call and may set FLAG. -/
theorem tickAlong_cases {i : Instr} {s t u : State} (h : tickAlong i s t = .next u) :
    u = t ∨ (s.run = true ∧ t.run = true ∧ hasTick i = true ∧ s.overTop = false ∧
      u = { t with tcnt := s.tickCount, flag := t.flag || s.tickSetsFlag }) := by
  unfold tickAlong at h
  split at h
  · rename_i hc
    simp only [Bool.and_eq_true] at hc
    split at h
    · cases h
    · exact .inr ⟨hc.1.1, hc.1.2, hc.2, by simpa using ‹¬s.overTop = true›, (Host.Outcome.next.inj h).symm⟩
  · exact .inl (Host.Outcome.next.inj h).symm

/-- The end of a step with a call goes on where no interrupt is pending, or takes it in the host's turn. -/
theorem serviced_cases {s t : State} (h : serviced s = .next t) :
    (s.pending = false ∧ t = s) ∨ (s.hostTurn = true ∧ s.pending = true ∧ s.jt = .readBit ∧
      t = ((s.setFlag false).sampled s.pinRead).nextLevel) := by
  unfold serviced at h
  split at h
  · split at h
    · simp only [exec, execIrqEntry] at h
      rw [onlyIf_eq_next, takeInterrupt_eq_next] at h
      exact .inr ⟨‹_›, h.1, h.2.1, h.2.2⟩
    · cases h
  · exact .inl ⟨by simpa using ‹¬s.pending = true›, (Host.Outcome.next.inj h).symm⟩

theorem callStep_cases {i : Instr} {s u : State} (h : callStep i s = .next u) :
    ∃ t t', exec i s = .next t ∧ tickAlong i s t = .next t' ∧ serviced t' = .next u := by
  obtain ⟨t, ht, h⟩ := andThen_eq_next.mp h
  obtain ⟨t', ht', h⟩ := andThen_eq_next.mp h
  exact ⟨t, t', ht, ht', h⟩

/-- An idle step in one equation: nothing with RUN = 0, else the tick and its interrupt. -/
theorem idleStep_eq (s : State) :
    idleStep s = if s.run then if s.overTop then .refused .counterAboveTop else serviced s.ticked else .next s := by
  unfold idleStep
  split
  · rename_i hr
    cases hm : s.mode
    · simp [exec, execTickMax, hr, hm, State.overTop]
    · cases ho : s.overTop <;> simp [exec, execTickShort, hr, hm, ho]
  · rfl

/-- An idle step does nothing, or ticks the running timer. -/
theorem idleStep_cases {s u : State} (h : idleStep s = .next u) :
    (s.run = false ∧ u = s) ∨ (s.run = true ∧ s.overTop = false ∧ serviced s.ticked = .next u) := by
  rw [idleStep_eq] at h
  cases hr : s.run <;> cases ho : s.overTop <;> simp_all

/-- A step in the host's turn takes a pending interrupt, idles, or runs the instruction of the next call record. -/
theorem hostStep_cases {s u : State} (h : hostStep s = .next u) :
    (s.pending = true ∧ ∃ t, exec .irqEntry s = .next t ∧ tickAlong .irqEntry s t = .next u) ∨
    (s.pending = false ∧ ∃ rest, idleStep { s with calls := rest } = .next u) ∨
    (s.pending = false ∧ ∃ b bs rest i r, s.calls = (b :: bs) :: rest ∧ decode (b :: bs) = .ok (i, r) ∧
      i.isStep = false ∧ callStep i { s with calls := rest } = .next u) := by
  unfold hostStep at h
  split at h
  · exact .inl ⟨‹_›, andThen_eq_next.mp h⟩
  · have hp : s.pending = false := by simpa using ‹¬s.pending = true›
    refine .inr ?_
    split at h
    · rename_i hc
      exact .inl ⟨hp, [], by rw [← hc]; exact h⟩
    · exact .inl ⟨hp, _, h⟩
    · rename_i b bs rest hc
      split at h
      · cases h
      · rename_i i r hd
        split at h
        · cases h
        · exact .inr ⟨hp, b, bs, rest, i, r, hc, hd, by simpa using ‹¬i.isStep = true›, h⟩

/-! ### Runs -/

@[simp] theorem runsTo_zero {s t : State} : RunsTo 0 s t ↔ t = s :=
  ⟨fun h => (Host.Outcome.next.inj h).symm, fun h => h ▸ rfl⟩

theorem runsTo_succ {k : Nat} {s t : State} : RunsTo (k + 1) s t ↔ ∃ u, step s = .next u ∧ RunsTo k u t := by
  constructor
  · intro h
    cases hs : step s with
    | next u =>
      refine ⟨u, rfl, ?_⟩
      simpa [RunsTo, Host.Core.run, Sys2Proof.core, hs] using h
    | fault e => simp [RunsTo, Host.Core.run, Sys2Proof.core, hs] at h
    | refused e => simp [RunsTo, Host.Core.run, Sys2Proof.core, hs] at h
  · rintro ⟨u, hs, hr⟩
    simpa [RunsTo, Host.Core.run, Sys2Proof.core, hs] using hr

/-- Runs compose. -/
theorem runsTo_add {j k : Nat} {s t : State} : RunsTo (j + k) s t ↔ ∃ u, RunsTo j s u ∧ RunsTo k u t := by
  induction j generalizing s with
  | zero => simp
  | succ j ih =>
    rw [Nat.succ_add, runsTo_succ]
    constructor
    · rintro ⟨u, hs, hr⟩
      obtain ⟨v, hv, hk⟩ := ih.mp hr
      exact ⟨v, runsTo_succ.mpr ⟨u, hs, hv⟩, hk⟩
    · rintro ⟨v, hv, hk⟩
      obtain ⟨u, hs, hj⟩ := runsTo_succ.mp hv
      exact ⟨u, hs, ih.mpr ⟨v, hj, hk⟩⟩

/-- One step as a run. -/
theorem runsTo_one {s t : State} (h : step s = .next t) : RunsTo 1 s t :=
  runsTo_succ.mpr ⟨t, h, runsTo_zero.mpr rfl⟩

theorem runsTo_trans {j k : Nat} {s u t : State} (h : RunsTo j s u) (h' : RunsTo k u t) : RunsTo (j + k) s t :=
  runsTo_add.mpr ⟨u, h, h'⟩

/-- An induction packaged once: what holds of a state and is kept by every step holds along every run. -/
theorem runsTo_keeps {P : State → Prop} (keep : ∀ s t, P s → step s = .next t → P t) {k : Nat} {s t : State}
    (hs : P s) (h : RunsTo k s t) : P t := by
  induction k generalizing s with
  | zero => rw [runsTo_zero] at h; exact h ▸ hs
  | succ k ih =>
    obtain ⟨u, hu, hr⟩ := runsTo_succ.mp h
    exact ih (keep s u hs hu) hr

end Sys2Proof.Machine
end

