-- ==== Sys2Proof/Laws/Words.lean ====
section
/-! SUPPORT. The fields of the bit-exact words: reading a field of a word gives back what the word was built of. -/

namespace Sys2Proof.Machine

open Sys2Proof

theorem hiByte_word16 (a b : Byte) : hiByte (word16 a b) = a := by
  apply BitVec.eq_of_getLsbD_eq; intro i hi
  rw [hiByte, word16, BitVec.getLsbD_extractLsb', BitVec.getLsbD_append]
  simp [hi, -BitVec.getLsbD_eq_getElem, show ¬ (8 + i < 8) by omega]

theorem loByte_word16 (a b : Byte) : loByte (word16 a b) = b := by
  apply BitVec.eq_of_getLsbD_eq; intro i hi
  rw [loByte, word16, BitVec.getLsbD_extractLsb', BitVec.getLsbD_append]
  simp [hi, -BitVec.getLsbD_eq_getElem]

theorem commandValue_cmd16Word (c : BitVec 11) (t : Bool) (k : Nibble) : commandValue (cmd16Word c t k) = c := by
  apply BitVec.eq_of_getLsbD_eq
  intro i hi
  simp only [commandValue, cmd16Word, BitVec.getLsbD_extractLsb', BitVec.getLsbD_append, hi]
  simp [show ¬ (5 + i < 4) by omega, show ¬ (5 + i - 4 < 1) by omega, show 5 + i - 4 - 1 = i by omega, -BitVec.getLsbD_eq_getElem]

theorem commandT_cmd16Word (c : BitVec 11) (t : Bool) (k : Nibble) : commandT (cmd16Word c t k) = t := by
  rw [commandT, cmd16Word, BitVec.getLsbD_append, BitVec.getLsbD_append]
  cases t <;> rfl

theorem commandCrc_cmd16Word (c : BitVec 11) (t : Bool) (k : Nibble) : commandCrc (cmd16Word c t k) = k := by
  apply BitVec.eq_of_getLsbD_eq
  intro i hi
  simp only [commandCrc, cmd16Word, BitVec.getLsbD_extractLsb', BitVec.getLsbD_append, hi]
  simp [hi, -BitVec.getLsbD_eq_getElem]

theorem respOfNibbles_append (n3 n2 n1 : Nibble) : respOfNibbles n3 n2 n1 = 0#4 ++ n3 ++ n2 ++ n1 := by
  simp only [respOfNibbles, word16]
  apply BitVec.eq_of_getLsbD_eq; intro i hi
  simp only [BitVec.getLsbD_append, BitVec.getLsbD_setWidth]
  have : i < 16 := hi
  interval_cases i <;> simp

theorem symbolOf_append {g : BitVec 24} {s3 s2 s1 s0 : Symbol} (h : g.extractLsb' 0 20 = s3 ++ s2 ++ s1 ++ s0) :
    symbolOf g 3 = s3 ∧ symbolOf g 2 = s2 ∧ symbolOf g 1 = s1 ∧ symbolOf g 0 = s0 := by
  have key : ∀ i, i < 20 → g.getLsbD i = (s3 ++ s2 ++ s1 ++ s0).getLsbD i := by
    intro i hi; rw [← h]; simp [hi, -BitVec.getLsbD_eq_getElem]
  refine ⟨?_, ?_, ?_, ?_⟩ <;>
  · apply BitVec.eq_of_getLsbD_eq; intro i hi
    simp only [symbolOf, BitVec.getLsbD_extractLsb', hi, decide_true, Bool.true_and]
    rw [key _ (by omega)]
    simp only [BitVec.getLsbD_append]
    interval_cases i <;> rfl

theorem errorOfCode_errorCode {cfg : Config} (h : cfg.errOk) (e : Error) : errorOfCode cfg (errorCode cfg e) = some e := by
  unfold Config.errOk ErrCodes.toList at h
  simp only [List.nodup_cons, List.mem_cons, List.not_mem_nil, or_false, not_or, ← beq_eq_false_iff_ne (α := Byte)] at h
  obtain ⟨⟨a1,a2,a3,a4,a5,a6⟩, ⟨b2,b3,b4,b5,b6⟩, ⟨c3,c4,c5,c6⟩, ⟨d4,d5,d6⟩, ⟨e5,e6⟩, f6, -⟩ := h
  cases e <;> simp only [errorOfCode, errorCode, List.find?, *, beq_self_eq_true]

end Sys2Proof.Machine
end

