-- ==== Sys2Proof/Tests/Slice0.lean ====
section
/-! SUPPORT. Tests: ill-formed terms, words decoded, one step each on small states, and the witnesses of the statements'
hypotheses. Expected results are the vectors of spec/95_test_vectors.md or are worked by hand from the rule named. -/

namespace Sys2Proof.Machine

open Sys2Proof

/-! ### Ill-formed terms, which the check refuses -/

theorem test_illformed_special : (Instr.fromSpecial 48 false).wellFormed = false := by decide
theorem test_illformed_error : (Instr.fromError .none).wellFormed = false := by decide
theorem test_illformed_send : (Instr.send [0xA5#8] 9).wellFormed = false := by decide
theorem test_illformed_rpm : (Instr.getRPM 0x0500 0).wellFormed = false := by decide
theorem test_illformed_throttle : (Instr.cmd16Throttle 47 false 0).wellFormed = false := by decide
theorem test_illformed_period_telemetry : (Instr.resp16Period 0 2 0x0FF).wellFormed = false := by decide
theorem test_illformed_period_stopped : (Instr.resp16Period 0 7 0x1FF).wellFormed = false := by decide

/-- The decoder rejects the bytes of each of them, and what is no record, by name. -/
theorem test_rejected :
    decode [] = .error .empty ∧ decode [0x04] = .error (.unknownIdentifier 0x04) ∧ decode [0x02, 0xC6] = .error .truncated ∧
    decode [0x25, 48, 0] = .error .operandOutOfRange ∧ decode [0x46, 6] = .error .operandOutOfRange ∧
    decode [0x30, 1, 0xA5, 9] = .error .operandOutOfRange ∧ decode [0x24, 0, 8, 0] = .error .operandOutOfRange ∧
    decode [0x43, 32] = .error .operandOutOfRange ∧ decode [0xE3, 7] = .error .operandOutOfRange :=
  ⟨rfl, rfl, rfl, rfl, rfl, rfl, rfl, rfl, rfl⟩

/-! ### Words written out: identifiers from spec/opcode_table.json, fields from spec/30_encoding.md -/

theorem test_decode_top :
    decode [0x01] = .ok (.init, []) ∧ decode [0x02, 0xC9, 0x82] = .ok (.sendCommand 0x82C9, []) ∧
    decode [0x03] = .ok (.getResponse, []) := ⟨rfl, rfl, rfl⟩

theorem test_decode_timer :
    decode [0x10, 200] = .ok (.setCounter 200, []) ∧ decode [0x11] = .ok (.setMaxTimeout, []) ∧
    decode [0x12] = .ok (.setShortTimeout, []) ∧ decode [0x13] = .ok (.start, []) ∧ decode [0x14] = .ok (.stop, []) ∧
    decode [0x15] = .ok (.clearFlag, []) ∧ decode [0x16] = .ok (.hasOverflowed, []) ∧
    decode [0x17] = .ok (.enableInterrupt, []) ∧ decode [0x18] = .ok (.disableInterrupt, []) :=
  ⟨rfl, rfl, rfl, rfl, rfl, rfl, rfl, rfl, rfl⟩

theorem test_decode_codec :
    decode [0x20, 0, 0x96, 0x08, 0] = .ok (.fromRaw 1046 false, []) ∧
    decode [0x21, 1, 0, 1] = .ok (.fromThrottle (-1) true, []) ∧
    decode [0x22, 0, 0, 1, 1] = .ok (.scaleToCommandMax (.fin (mkRat 1 2)), []) ∧
    decode [0x23, 2, 0] = .ok (.fromNormalized .negInf false, []) ∧
    decode [0x24, 0x16, 0x04, 0] = .ok (.crc 1046 false, []) ∧ decode [0x25, 47, 1] = .ok (.fromSpecial 47 true, []) ∧
    decode [0x26, 0xC6, 0x82] = .ok (.getRaw 0x82C6, []) := ⟨rfl, rfl, rfl, rfl, rfl, rfl, rfl⟩

theorem test_decode_encoder_decoder :
    decode [0x30, 2, 0xA5, 0xC0, 10] = .ok (.send [0xA5, 0xC0] 10, []) ∧
    decode [0x40, 0x33, 0xBA, 0x0C] = .ok (.decode 0x0CBA33, []) ∧
    decode [0x41, 0x33, 0xBA, 0x0C] = .ok (.unshift 0x0CBA33, []) ∧
    decode [0x42, 0x2A, 0xE7, 0x0A] = .ok (.split 0x0AE72A, []) ∧ decode [0x43, 0x19] = .ok (.gcrDecode 0b11001, []) ∧
    decode [0x44, 5, 0, 1, 10] = .ok (.checksum 5 0 1 10, []) ∧ decode [0x45, 5, 0, 1] = .ok (.fromNibbles 5 0 1, []) ∧
    decode [0x46, 0] = .ok (.fromError .responseTimeout, []) := ⟨rfl, rfl, rfl, rfl, rfl, rfl, rfl, rfl⟩

theorem test_decode_queries :
    decode [0x50, 0x06, 0x80] = .ok (.isError 0x8006, []) ∧ decode [0x51, 0x06, 0x80] = .ok (.getError 0x8006, []) ∧
    decode [0x52, 0x00, 0x05] = .ok (.getExponent 0x0500, []) ∧ decode [0x53, 0x00, 0x05] = .ok (.getBase 0x0500, []) ∧
    decode [0x54, 0x00, 0x05] = .ok (.getPeriodMicros 0x0500, []) ∧
    decode [0x55, 0xFF, 0x0F] = .ok (.isStopped 0x0FFF, []) ∧ decode [0x56, 0x2A, 0x02] = .ok (.isTelemetry 0x022A, []) ∧
    decode [0x57, 0x2A, 0x02] = .ok (.getTelemetryType 0x022A, []) ∧
    decode [0x58, 0x2A, 0x02] = .ok (.getTelemetryValue 0x022A, []) ∧
    decode [0x59, 0xF4, 0x01, 6] = .ok (.getRPM 0x01F4 7, []) := ⟨rfl, rfl, rfl, rfl, rfl, rfl, rfl, rfl, rfl, rfl⟩

theorem test_decode_steps :
    decode [0x80] = .ok (.tickMax, []) ∧ decode [0x81] = .ok (.tickShort, []) ∧ decode [0x82] = .ok (.txStep, []) ∧
    decode [0x83] = .ok (.rxWait, []) ∧ decode [0x84] = .ok (.rxOvf, []) ∧ decode [0x85] = .ok (.rxTimeout, []) ∧
    decode [0x86] = .ok (.rxFirstEdge, []) ∧ decode [0x87] = .ok (.rxCount, []) ∧ decode [0x88] = .ok (.rxEdge, []) ∧
    decode [0x89] = .ok (.rxSample, []) ∧ decode [0x8A] = .ok (.rxComplete, []) ∧ decode [0x8B] = .ok (.rxCollide, []) ∧
    decode [0x8C] = .ok (.irqEntry, []) := ⟨rfl, rfl, rfl, rfl, rfl, rfl, rfl, rfl, rfl, rfl, rfl, rfl, rfl⟩

/-- `000000 00110 1 1101`; `0000010 1111 0 1011`; `10000010110 0 0110`: command values 6, 47 and 1046. -/
theorem test_decode_cmd16 :
    decode [0xE0, 0xDD, 0x00] = .ok (.cmd16Special0 6 true 0xD, []) ∧
    decode [0xE0, 0xEB, 0x05] = .ok (.cmd16Special32 15 false 0xB, []) ∧
    decode [0xE0, 0xC6, 0x82] = .ok (.cmd16Throttle 1046 false 6, []) := ⟨rfl, rfl, rfl⟩

theorem test_decode_gcr5_low :
    decode [0xE1, 0x00] = .ok (.gcr5_00000, []) ∧ decode [0xE1, 0x01] = .ok (.gcr5_00001, []) ∧
    decode [0xE1, 0x02] = .ok (.gcr5_00010, []) ∧ decode [0xE1, 0x03] = .ok (.gcr5_00011, []) ∧
    decode [0xE1, 0x04] = .ok (.gcr5_00100, []) ∧ decode [0xE1, 0x05] = .ok (.gcr5_00101, []) ∧
    decode [0xE1, 0x06] = .ok (.gcr5_00110, []) ∧ decode [0xE1, 0x07] = .ok (.gcr5_00111, []) ∧
    decode [0xE1, 0x08] = .ok (.gcr5_01000, []) ∧ decode [0xE1, 0x09] = .ok (.gcr5_01001, []) ∧
    decode [0xE1, 0x0A] = .ok (.gcr5_01010, []) ∧ decode [0xE1, 0x0B] = .ok (.gcr5_01011, []) ∧
    decode [0xE1, 0x0C] = .ok (.gcr5_01100, []) ∧ decode [0xE1, 0x0D] = .ok (.gcr5_01101, []) ∧
    decode [0xE1, 0x0E] = .ok (.gcr5_01110, []) ∧ decode [0xE1, 0x0F] = .ok (.gcr5_01111, []) :=
  ⟨rfl, rfl, rfl, rfl, rfl, rfl, rfl, rfl, rfl, rfl, rfl, rfl, rfl, rfl, rfl, rfl⟩

theorem test_decode_gcr5_high :
    decode [0xE1, 0x10] = .ok (.gcr5_10000, []) ∧ decode [0xE1, 0x11] = .ok (.gcr5_10001, []) ∧
    decode [0xE1, 0x12] = .ok (.gcr5_10010, []) ∧ decode [0xE1, 0x13] = .ok (.gcr5_10011, []) ∧
    decode [0xE1, 0x14] = .ok (.gcr5_10100, []) ∧ decode [0xE1, 0x15] = .ok (.gcr5_10101, []) ∧
    decode [0xE1, 0x16] = .ok (.gcr5_10110, []) ∧ decode [0xE1, 0x17] = .ok (.gcr5_10111, []) ∧
    decode [0xE1, 0x18] = .ok (.gcr5_11000, []) ∧ decode [0xE1, 0x19] = .ok (.gcr5_11001, []) ∧
    decode [0xE1, 0x1A] = .ok (.gcr5_11010, []) ∧ decode [0xE1, 0x1B] = .ok (.gcr5_11011, []) ∧
    decode [0xE1, 0x1C] = .ok (.gcr5_11100, []) ∧ decode [0xE1, 0x1D] = .ok (.gcr5_11101, []) ∧
    decode [0xE1, 0x1E] = .ok (.gcr5_11110, []) ∧ decode [0xE1, 0x1F] = .ok (.gcr5_11111, []) :=
  ⟨rfl, rfl, rfl, rfl, rfl, rfl, rfl, rfl, rfl, rfl, rfl, rfl, rfl, rfl, rfl, rfl⟩

/-- `1 0000000 00000110`; `00001111 11111111`; `0 000 001 0 00101010`; `0 000 010 100000000`. -/
theorem test_decode_resp16 :
    decode [0xE2, 0x06, 0x80] = .ok (.resp16Error 0 6, []) ∧ decode [0xE2, 0xFF, 0x0F] = .ok (.resp16Stopped, []) ∧
    decode [0xE2, 0x2A, 0x02] = .ok (.resp16Telemetry 0 1 42, []) ∧
    decode [0xE2, 0x00, 0x05] = .ok (.resp16Period 0 2 0x100, []) := ⟨rfl, rfl, rfl, rfl⟩

theorem test_decode_err8 :
    decode [0xE3, 0] = .ok (.err8None, []) ∧ decode [0xE3, 1] = .ok (.err8ResponseTimeout, []) ∧
    decode [0xE3, 2] = .ok (.err8BadDecodeFirstNibble, []) ∧ decode [0xE3, 3] = .ok (.err8BadDecodeSecondNibble, []) ∧
    decode [0xE3, 4] = .ok (.err8BadDecodeThirdNibble, []) ∧ decode [0xE3, 5] = .ok (.err8BadDecodeFourthNibble, []) ∧
    decode [0xE3, 6] = .ok (.err8BadChecksum, []) := ⟨rfl, rfl, rfl, rfl, rfl, rfl, rfl⟩

/-! ### Small states -/

/-- A field of the next state, if there is one. -/
def got {α : Type} (f : State → α) : Result → Option α
  | .next s => some (f s)
  | .fault _ => none
  | .refused _ => none

/-- A call's value on the state after reset. -/
def answered (i : Instr) : Option Value := got State.ret (exec i State.reset)

/-- The state after reset with INV and EDT_SUPPORT chosen. -/
def plain (inv edt : Bool) : State := { State.reset with cfg := { Config.example with inv := inv, edtSupport := edt } }

/-- The host's turn after `init()`. -/
def initialised : State := { State.reset with ready := true }

/-- The host's turn, the timer running in max-timeout mode. -/
def running (tcnt : Byte) : State := { initialised with run := true, tcnt := tcnt }

/-- The host's turn, the timer in short mode with TOP = 7. -/
def shortTimer (tcnt : Byte) : State := { running tcnt with mode := .short, top := 7 }

/-- Armed, with the levels to come. -/
def waiting (line : List Level) : State :=
  { State.reset with
    run := true, budget := 2, acc := 0x000010, prev := true, phase := .waitingForFirstEdge, lineIn := line }

/-- Sampling, with the levels to come. -/
def sampling (prev : Level) (next : Nat) (line : List Level) : State :=
  { waiting line with
    phase := .sampling, prev := prev, next := next, mode := .short, top := 7, ie := true, jt := .readBit }

/-- The last sample of program P1. -/
def lastSample : State := { sampling true 1 [true] with acc := 0x865D19, bitidx := 19 }

/-- The call step of P4's `sendCommand` is over. -/
def sending : State :=
  { State.reset with
    cmd := 0x82C9, phase := .sending, dir := .output, txSrc := .frame, out := true, txcnt := 2, txBusy := true }

/-- The frame of P4 is sent. -/
def sent : State := { sending with txi := 16, out := false, txph := .winC, txcnt := 1, txBusy := false }

/-- A direct `send` of the last of 8 bits, in the last cycle of window C. -/
def lastCycle : State :=
  { State.reset with txSrc := .buffer [0xA5] 8, txi := 7, txph := .winC, txcnt := 1, txBusy := true }

/-- A pending interrupt in the host's turn. -/
def interrupted : State := { State.reset with flag := true, ie := true, jt := .readBit, lineIn := [true] }

/-! ### One step each -/

theorem test_init : got (fun s => (s.run, s.mode, s.phase, s.dir, s.ready)) (exec .init (shortTimer 3)) =
    some (false, .max, .idle, .input, true) := by decide
theorem test_sendCommand : got (fun s => (s.cmd, s.phase, s.dir, s.out, s.txcnt)) (exec (.sendCommand 0x82C9) initialised) =
    some (0x82C9, .sending, .output, true, 2) := by decide
theorem test_sendCommand_before_init : exec (.sendCommand 0x82C9) State.reset = .refused .notInitialised := rfl
theorem test_getResponse : got (fun s => (s.run, s.budget, s.acc, s.prev, s.phase)) (exec .getResponse initialised) =
    some (true, 2, 0x000010, true, .waitingForFirstEdge) := by decide
theorem test_getResponse_after_frame : got (fun s => (s.dir, s.phase)) (exec .getResponse sent) =
    some (.input, .waitingForFirstEdge) := by decide
theorem test_setCounter : got State.tcnt (exec (.setCounter 200) (running 9)) = some 200 := by decide
theorem test_setMaxTimeout : got (fun s => (s.mode, s.tcnt, s.top)) (exec .setMaxTimeout (shortTimer 3)) =
    some (.max, 3, 7) := by decide
theorem test_setShortTimeout : got (fun s => (s.mode, s.tcnt, s.top)) (exec .setShortTimeout (running 3)) =
    some (.short, 3, 7) := by decide
theorem test_start : got State.run (exec .start State.reset) = some true := by decide
theorem test_stop : got (fun s => (s.run, s.tcnt)) (exec .stop (running 9)) = some (false, 9) := by decide
theorem test_clearFlag : got State.flag (exec .clearFlag interrupted) = some false := by decide
theorem test_hasOverflowed : got (fun s => (s.ret, s.flag)) (exec .hasOverflowed interrupted) =
    some (.bit true, true) := by decide
theorem test_enableInterrupt : got State.ie (exec .enableInterrupt State.reset) = some true := by decide
theorem test_disableInterrupt : got State.ie (exec .disableInterrupt interrupted) = some false := by decide
theorem test_fromRaw : got State.ret (exec (.fromRaw 1046 false) (plain false true)) = some (.command 0x82C6) := by decide
theorem test_fromRaw_refused : exec (.fromRaw 2048 false) State.reset = .refused .rawOutOfRange := rfl
theorem test_fromThrottle : got State.ret (exec (.fromThrottle 100000 false) (plain false true)) =
    some (.command 0xFFEE) := by decide
theorem test_fromThrottle_negative : got State.ret (exec (.fromThrottle (-1) false) (plain false true)) =
    some (.command 0x0606) := by decide
theorem test_fromNormalized : got State.ret (exec (.fromNormalized .posInf true) (plain false true)) =
    some (.command 0xFFFF) := by decide
theorem test_crc : answered (.crc 1046 false) = some (.u4 0x9) := by decide
theorem test_crc_plain : got State.ret (exec (.crc 1500 true) (plain false true)) = some (.u4 0x9) := by decide
theorem test_fromSpecial : got State.ret (exec (.fromSpecial 47 true) (plain false true)) = some (.command 0x05FA) := by
  decide
theorem test_getRaw : answered (.getRaw 0x82C6) = some (.u11 1046) := by decide
theorem test_send : got (fun s => (s.out, s.txph, s.txcnt, s.phase)) (exec (.send [0xA5, 0xC0] 10) State.reset) =
    some (true, .winA, 2, .idle) := by decide
theorem test_send_empty : got (fun s => (s.out, s.txi, s.txBusy)) (exec (.send [0x55] 0) State.reset) =
    some (false, 0, false) := by decide
theorem test_decode_ok : answered (.decode 0x0CBA33) = some (.response 0x0500) := by decide
theorem test_decode_badChecksum : answered (.decode 0x08BA2E) = some (.response 0x8006) := by decide
theorem test_unshift : answered (.unshift 0x0CBA33) = some (.u24 0x0AE72A) := by decide
theorem test_split : answered (.split 0x0AE72A) = some (.symbols 0b10101 0b11001 0b11001 0b01010) := by decide
theorem test_gcrDecode : answered (.gcrDecode 0b11011) = some (.u8 1) := by decide
theorem test_checksum : answered (.checksum 5 0 0 8) = some (.u4 2) := by decide
theorem test_fromNibbles : answered (.fromNibbles 1 0xF 4) = some (.response 0x01F4) := by decide
theorem test_fromError : answered (.fromError .badDecodeThirdNibble) = some (.response 0x8004) := by decide
theorem test_isError : answered (.isError 0x8001) = some (.bit true) := by decide
theorem test_getError : answered (.getError 0x8005) = some (.error .badDecodeFourthNibble) := by decide
theorem test_getError_unknown : exec (.getError 0x8007) State.reset = .refused .unknownErrorCode := rfl
theorem test_getExponent : answered (.getExponent 0x0F00) = some (.u3 7) := by decide
theorem test_getBase : answered (.getBase 0x02FA) = some (.u9 506) := by decide
theorem test_getBase_plain : got State.ret (exec (.getBase 0x02FA) (plain true false)) = some (.u9 250) := by decide
theorem test_getPeriodMicros : answered (.getPeriodMicros 0x0FFF) = some (.u16 65408) := by decide
theorem test_isStopped : answered (.isStopped 0x0FFE) = some (.bit false) := by decide
theorem test_isTelemetry : answered (.isTelemetry 0x022A) = some (.bit true) := by decide
theorem test_getTelemetryType : answered (.getTelemetryType 0x047D) = some (.telemType 2 (some .voltage)) := by decide
theorem test_getTelemetryValue : answered (.getTelemetryValue 0x047D) = some (.u8 125) := by decide
theorem test_getRPM : rpmOf true 0x0500 7 = some (mkRat 60000000 7168) := rfl
theorem test_getRPM_refused : exec (.getRPM 0x0000 7) (plain true false) = .refused .zeroDivisor := rfl
theorem test_tickMax : got (fun s => (s.tcnt, s.flag)) (exec .tickMax (running 255)) = some (0, true) := by decide
theorem test_tickShort : got (fun s => (s.tcnt, s.flag)) (exec .tickShort (shortTimer 6)) = some (7, false) := by decide
theorem test_tickShort_refused : exec .tickShort (shortTimer 9) = .refused .counterAboveTop := rfl
theorem test_txStep : got (fun s => (s.out, s.txph, s.txcnt)) (exec .txStep { sending with txi := 1, txcnt := 1 }) =
    some (false, .winB, 2) := by decide
theorem test_txStep_last : got (fun s => (s.txi, s.txBusy)) (exec .txStep lastCycle) = some (8, false) := by decide
theorem test_rxWait : got State.tcnt (exec .rxWait { waiting [true] with tcnt := 17 }) = some 18 := by decide
theorem test_rxOvf : got (fun s => (s.tcnt, s.budget)) (exec .rxOvf { waiting [true] with tcnt := 255 }) =
    some (0, 1) := by decide
theorem test_rxTimeout : got (fun s => (s.tcnt, s.budget, s.run, s.resp, s.phase))
    (exec .rxTimeout { waiting [true] with tcnt := 255, budget := 1 }) = some (0, 0, false, 0x8001, .done) := by decide
theorem test_rxFirstEdge : got (fun s => (s.prev, s.next, s.top, s.ie, s.phase)) (exec .rxFirstEdge (waiting [false])) =
    some (false, 12, 7, true, .sampling) := by decide
theorem test_rxCount : got State.next (exec .rxCount (sampling false 12 [false])) = some 11 := by decide
theorem test_rxEdge : got (fun s => (s.prev, s.next)) (exec .rxEdge (sampling true 2 [false])) =
    some (false, 4) := by decide
theorem test_rxSample : got (fun s => (s.acc, s.carry, s.bitidx, s.next)) (exec .rxSample (sampling true 1 [true])) =
    some (0x000021, false, 1, 8) := by decide
theorem test_rxSample_last : got (fun s => (s.acc, s.carry, s.resp, s.ie, s.phase)) (exec .rxSample lastSample) =
    some (0x0CBA33, true, 0x0500, false, .done) := by decide
theorem test_rxComplete : got (fun s => (s.resp, s.done)) (exec .rxComplete { sampling true 8 [] with acc := 0x0CBA33, carry := true }) =
    some (0x0500, true) := by decide
theorem test_rxCollide : got (fun s => (s.timingFault, s.phase)) (exec .rxCollide (sampling false 1 [true])) =
    some (true, .sampling) := by decide
theorem test_irqEntry : got (fun s => (s.flag, s.acc, s.bitidx)) (exec .irqEntry interrupted) =
    some (false, 0x000001, 1) := by decide
theorem test_cmd16 : got State.ret (exec (.cmd16Special32 15 false 0xB) (plain false true)) =
    some (.commandWord (.special 47) false 0xB true) := by decide
theorem test_cmd16_wrong_crc : answered (.cmd16Throttle 1046 false 6) =
    some (.commandWord (.throttle 998) false 6 false) := by decide
theorem test_gcr5 : answered .gcr5_11001 = some (.u8 0) ∧ answered .gcr5_11000 = some (.u8 0xFF) := by decide
theorem test_resp16 : answered (.resp16Telemetry 0 1 42) = some (.respClass (.telemetry 1 42)) := by decide
theorem test_resp16_plain : got State.ret (exec (.resp16Telemetry 0 1 42) (plain true false)) =
    some (.respClass (.period 1 42)) := by decide
theorem test_err8 : answered .err8BadChecksum = some (.errName (some .badChecksum)) := by decide

/-- scaleToCommandMax: 1/2 goes to 999 by truncation, 7 saturates (95_test_vectors.md S2 and section 2). -/
theorem test_scale : scaleReal [] (.fin 7) = some 1999 ∧ scaleRound [] 1999 2 = 999 := ⟨rfl, rfl⟩

/-- A record of the host runs, with the tick of its step beside it; clearFlag loses to the tick's event (R101). -/
theorem test_step_call : got (fun s => (s.run, s.tcnt, s.calls)) (step { State.reset with calls := [[0x13], []] }) =
    some (true, 0, [[]]) := by decide
theorem test_step_tick_beside_call : got (fun s => (s.tcnt, s.flag)) (step { running 255 with calls := [[0x15]] }) =
    some (0, true) := by decide
theorem test_step_bad_call : step { State.reset with calls := [[0x83]] } = .refused .stepIsNotACall := rfl
theorem test_step_reset : got (fun s => (s.phase, s.run, s.resets)) (step { lastSample with resets := [0, 3] }) =
    some (.idle, false, [3]) := by decide
theorem test_step_before_reset : got State.resets (step { lastSample with resets := [2, 3] }) = some [1, 3] := by decide

/-- The timer left running counts in a cycle of a `send` that is a tick, and in no other (R93), and its interrupt there is
refused (R117). -/
theorem test_timer_during_send :
    got State.tcnt (exec .txStep { sending with run := true, tcnt := 9, ticksIn := [true] }) = some 10 ∧
    got State.tcnt (exec .txStep { sending with run := true, tcnt := 9, ticksIn := [false] }) = some 9 ∧
    exec .txStep { sending with run := true, ie := true, tcnt := 255, ticksIn := [true] } =
      .refused .interruptDuringSend := ⟨by decide, by decide, rfl⟩

/-- A call of the decoder takes no tick of the running timer (R143); one of the timer's own has the tick beside it. -/
theorem test_pure_call_takes_no_tick :
    got (fun s => (s.tcnt, s.ret)) (step { running 9 with calls := [encode (.checksum 1 2 3 15)] }) = some (9, .u4 0) ∧
    got (fun s => (s.tcnt, s.ret)) (step { running 9 with calls := [encode .hasOverflowed] }) =
      some (10, .bit false) := by decide

/-- With an interrupt pending the step takes it; the tick's own event of that step waits for the next (log 11). -/
theorem test_step_second_event :
    got (fun s => (s.acc, s.flag, s.tcnt)) (step { interrupted with run := true, tcnt := 255 }) =
      some (0x000001, true, 0) := by decide

/-- RPM_ROUND is the configuration's (R14). -/
theorem test_rpmRound : rpmRound Config.example.rpmRound (mkRat 120000 7) = mkRat 120000 7 := rfl

/-- The ESC's raw levels for nibbles 5, 0, 0 (R153's example). -/
theorem test_escLevels : escValue Config.example 5 0 0 = 0xAE72A ∧ escLevels Config.example 5 0 0 = 0xCBA33 := by decide
theorem test_withFetchWord : got State.phase (step (State.reset.withFetchWord 8 0x86)) = some .sampling := by decide

/-! ### Witnesses: states that meet the hypotheses of the statements

`quiet`, the configuration's assertions and the invariant first, then one theorem per statement with hypotheses. -/

theorem example_ok : Config.example.ok := by
  refine ⟨⟨by decide, by decide, by decide, ?_, by decide, ?_, ?_, ?_, ?_⟩, ⟨by decide, by decide, by decide, by decide, by decide, ?_, by decide⟩, by decide, by decide⟩
  all_goals simp only [Config.example, Config.withinTol, Config.bitPeriod, Speed.bitsPerSecond]
  all_goals norm_num

theorem waiting_inv (tcnt : Byte) (budget : Nat) (h : 1 ≤ budget ∧ budget ≤ 2) (line : List Level) :
    ({ waiting line with tcnt := tcnt, budget := budget } : State).Inv where
  cfg := example_ok
  done := by simp [waiting, State.reset]
  idle := by simp [waiting]
  fault := by simp [waiting, State.reset]
  tx := by simp [waiting, State.reset]
  send := by simp [waiting]
  wait := fun _ => ⟨h, rfl, rfl, rfl, ⟨rfl, rfl, rfl, rfl⟩, rfl⟩
  sample := by simp [waiting]

theorem sampling_inv (prev : Level) (next : Nat) (h : 1 ≤ next ∧ next ≤ 12) (line : List Level) :
    (sampling prev next line).Inv where
  cfg := example_ok
  done := by simp [sampling, waiting, State.reset]
  idle := by simp [sampling]
  fault := by simp [sampling]
  tx := by simp [sampling, waiting, State.reset]
  send := by simp [sampling]
  wait := by simp [sampling]
  sample := fun _ =>
    ⟨⟨Nat.zero_le _, fun i _ hi => by simp only [sampling, waiting]; interval_cases i <;> rfl⟩, h, ⟨rfl, rfl, rfl, rfl⟩, ⟨rfl, rfl⟩, rfl⟩

theorem lastSample_inv : lastSample.Inv where
  cfg := example_ok
  done := by decide
  idle := by decide
  fault := by decide
  tx := by simp [lastSample, sampling, waiting, State.reset]
  send := by simp [lastSample, sampling]
  wait := by simp [lastSample, sampling]
  sample := fun _ =>
    ⟨⟨le_refl 19, fun i h hi => by
        have h : 19 ≤ i := h
        simp only [lastSample, sampling]; interval_cases i <;> rfl⟩,
      ⟨le_refl 1, by decide⟩, ⟨rfl, rfl, rfl, rfl⟩, ⟨rfl, rfl⟩, rfl⟩

theorem sending_inv : sending.Inv where
  cfg := example_ok
  done := by decide
  idle := by decide
  fault := by decide
  tx := fun _ => ⟨.inr rfl, by decide, by decide, by decide⟩
  send := fun _ => ⟨rfl, rfl, by decide⟩
  wait := by simp [sending]
  sample := by simp [sending]

theorem idle_inv (calls : List (List Byte)) (ready : Bool) :
    ({ State.reset with calls := calls, ready := ready } : State).Inv where
  cfg := example_ok
  done := by simp [State.reset]
  idle := fun _ => rfl
  fault := by simp [State.reset]
  tx := by simp [State.reset]
  send := by simp [State.reset]
  wait := by simp [State.reset]
  sample := by simp [State.reset]

/-- An operation's hypotheses: the host's turn. -/
theorem witness_InitSetsTheIdleState : (shortTimer 3).hostTurn = true := by decide

theorem witness_ResetLeavesEveryActivityOff : ({ sending with resets := [0, 7] } : State).resets = 0 :: [7] := rfl

theorem witness_EveryStepKeepsInv :
    (∃ t, (waiting [false]).Inv ∧ step (waiting [false]) = .next t) ∧ (∃ t, lastSample.Inv ∧ step lastSample = .next t) ∧
    (∃ t, sending.Inv ∧ step sending = .next t) ∧ ∃ t, State.reset.Inv ∧ step State.reset = .next t :=
  ⟨⟨_, waiting_inv 0 2 (by decide) _, rfl⟩, ⟨_, lastSample_inv, rfl⟩, ⟨_, sending_inv, rfl⟩, ⟨_, idle_inv [] false, rfl⟩⟩

theorem witness_TheBlockNeverWritesTheEnvironmentsRegisters :
    (∃ t, step lastSample = .next t) ∧ ∃ t, exec (.sendCommand 0x82C9) initialised = .next t := ⟨⟨_, rfl⟩, ⟨_, rfl⟩⟩

theorem witness_OnlyTheNamedInstructionsWriteARegister :
    ∃ t, exec .rxSample lastSample = .next t ∧ t.acc ≠ lastSample.acc ∧ t.resp ≠ lastSample.resp ∧
      t.carry ≠ lastSample.carry ∧ t.phase ≠ lastSample.phase ∧ t.ie ≠ lastSample.ie :=
  ⟨_, rfl, by decide, by decide, by decide, by decide, by decide⟩

theorem witness_SendCommandLaunchesTheFrame :
    (running 0).hostTurn = true ∧ (running 0).ready = true ∧ (running 0).cfg.msbFirst = true ∧ (running 0).gie = true ∧
      (running 0).otherIrq = false := by decide

theorem witness_GetResponseArmsTheReceiver :
    (initialised.hostTurn = true ∧ initialised.ready = true ∧ initialised.cfg.msbFirst = true ∧ initialised.gie = true ∧
      initialised.otherIrq = false) ∧ (sent.phase = .sending ∧ sent.txBusy = false) := by decide

/-- LSB-first configuration. -/
def lsbFirst : State := { initialised with cfg := { Config.example with msbFirst := false } }

theorem witness_LaunchesAreRefusedUnderABrokenPrecondition :
    (State.reset.hostTurn = true ∧ State.reset.ready = false) ∧
    (lsbFirst.hostTurn = true ∧ lsbFirst.ready = true ∧ lsbFirst.cfg.msbFirst = false) ∧
    (({ initialised with gie := false } : State).gie = false ∧ ({ initialised with gie := false } : State).hostTurn = true ∧
      ({ initialised with gie := false } : State).ready = true ∧
      ({ initialised with gie := false } : State).cfg.msbFirst = true) ∧
    (({ initialised with otherIrq := true } : State).otherIrq = true ∧
      ({ initialised with otherIrq := true } : State).hostTurn = true) ∧
    (State.reset.otherIrq = false ∧ 8 * [0xA5#8].length < 9) := by decide

theorem witness_RegisterCallsAreRefusedWhileTheBlockOwnsThem :
    lastSample.hostTurn = false ∧ lastSample.phase ≠ .sending ∧ sending.hostTurn = false ∧ sending.txBusy = true ∧
      lastCycle.hostTurn = false := by decide

theorem witness_SetCounterWritesTcnt :
    (shortTimer 3).hostTurn = true ∧ (shortTimer 3).run = true ∧ (shortTimer 3).mode = .short ∧
    (shortTimer 3).top.toNat < (8#8).toNat ∧
    ({ shortTimer 3 with calls := [[0x10, 8]] } : State).quiet ∧
    ({ shortTimer 3 with calls := [[0x10, 8]] } : State).pending = false :=
  ⟨rfl, rfl, rfl, by decide, ⟨rfl, rfl⟩, rfl⟩

theorem witness_SetMaxTimeoutWritesMode : (shortTimer 255).hostTurn = true ∧ (shortTimer 255).run = true := by decide

theorem witness_SetShortTimeoutWritesModeAndTop :
    (running 8).hostTurn = true ∧ (running 8).cfg.rxOk ∧ (running 8).run = true ∧
      (running 8).cfg.tb - 1 < (running 8).tcnt.toNat := ⟨rfl, example_ok.2.1, rfl, by decide⟩

theorem witness_StartAndStopWriteRun :
    State.reset.hostTurn = true ∧ State.reset.mode = .max ∧ State.reset.tcnt = 0 ∧ State.reset.quiet ∧
      State.reset.pending = false ∧ State.reset.calls = [] := ⟨rfl, rfl, rfl, ⟨rfl, rfl⟩, rfl, rfl⟩

theorem witness_ClearFlagLosesToTheTick :
    ({ running 255 with calls := [[0x15]] } : State).hostTurn = true ∧
    ({ running 255 with calls := [[0x15]] } : State).quiet ∧ ({ running 255 with calls := [[0x15]] } : State).ie = false ∧
    ({ running 255 with calls := [[0x15]] } : State).tcnt = ({ running 255 with calls := [[0x15]] } : State).limit :=
  ⟨rfl, ⟨rfl, rfl⟩, rfl, rfl⟩

theorem witness_HasOverflowedReadsFlag :
    (running 0).hostTurn = true ∧ (running 0).quiet ∧ (running 0).calls = [] ∧ (running 0).ie = false ∧
      (running 0).mode = .max ∧ (running 0).run = true ∧ (running 0).tcnt = 0 ∧ (running 0).flag = false :=
  ⟨rfl, ⟨rfl, rfl⟩, rfl, rfl, rfl, rfl, rfl, rfl⟩

theorem witness_InterruptEnableAndDisableWriteIe :
    (running 255).hostTurn = true ∧ (running 255).gie = true ∧ (running 255).tcnt = (running 255).limit := by decide

theorem witness_TickCountsOrWraps :
    ((running 255).run = true ∧ (running 255).mode = .max) ∧
    ((shortTimer 7).run = true ∧ (shortTimer 7).mode = .short ∧ (shortTimer 7).tcnt.toNat ≤ (shortTimer 7).top.toNat) ∧
    ((shortTimer 8).mode = .short ∧ (shortTimer 8).top.toNat < (shortTimer 8).tcnt.toNat) := by decide

theorem witness_TimerPeriodIsExact :
    (shortTimer 7).hostTurn = true ∧ (shortTimer 7).quiet ∧ (shortTimer 7).calls = [] ∧ (shortTimer 7).ie = false ∧
      (shortTimer 7).run = true ∧ (shortTimer 7).tcnt.toNat ≤ (shortTimer 7).limit.toNat ∧
      State.reset.pending = false ∧ State.reset.run = false :=
  ⟨rfl, ⟨rfl, rfl⟩, rfl, rfl, rfl, by decide, rfl, rfl⟩

theorem witness_ConstructorsBuildTheFrame :
    (0 ≤ (2047 : Int) ∧ (2047 : Int) ≤ 2047) ∧ ((-1 : Int) < 0 ∨ 2047 < (-1 : Int)) ∧ RealArg.posInf ≠ .nan := by decide

theorem witness_CodecLaws :
    ((0 : Int) ≤ 2047 ∧ (2047 : Int) ≤ 2047) ∧ ((0 : Rat) ≤ 1 ∧ (0 : Rat) ≤ 0 ∧ (1 : Rat) ≤ 1) ∧
    ∃ u, exec (.fromSpecial 47 true) (plain false true) = .next u ∧ u.ret = .command 0x05FA :=
  ⟨by decide, by norm_num, _, rfl, by decide⟩

theorem witness_ScaleRoundsAsConfigured :
    1999 ≤ 1999 ∧ State.reset.cfg.scaleCuts = [] ∧ (0 : Rat) ≤ 1 ∧ (1 : Rat) ≤ 1 ∧
    (1998 < 1999 ∧ ((1998 : Nat) : Rat) < 3997 / 3998 * 1999 ∧ (3997 : Rat) / 3998 * 1999 < ((1998 : Nat) : Rat) + 1) ∧
    ([Cut.mk 1 2 true][0]? = some (Cut.mk 1 2 true) ∧ [Cut.mk 1 2 true][1]? = none ∧ 0 < (Cut.mk 1 2 true).den) ∧
    ((1 : Rat) / 4 < ((1 : Nat) : Rat) / (2 : Nat) ∧ (1 : Rat) / 2 = ((1 : Nat) : Rat) / (2 : Nat) ∧
      ((1 : Nat) : Rat) / (2 : Nat) < (3 : Rat) / 4) :=
  ⟨le_rfl, rfl, by norm_num, by norm_num, by norm_num, ⟨rfl, rfl, by decide⟩, by norm_num⟩

theorem witness_FromSpecialIsTheRawCommand : (47#6).toNat < 48 := by decide

theorem witness_SendLaunchesThePulses :
    State.reset.hostTurn = true ∧ State.reset.otherIrq = false ∧ 8 ≤ 8 * [0xA5#8].length ∧
      0 ≤ 8 * [0xA5#8].length := by decide

theorem witness_EncoderCycle :
    (sending.txBusy = true ∧ 1 < sending.txcnt) ∧
    (({ sending with txcnt := 1 } : State).txcnt ≤ 1 ∧ ({ sending with txcnt := 1 } : State).txph = .winA) ∧
    ({ sending with txcnt := 1, txph := .winB } : State).txph = .winB ∧
    (({ lastCycle with txi := 6 } : State).txi + 1 ≠ ({ lastCycle with txi := 6 } : State).txBits ∧ lastCycle.txph = .winC) ∧
    (lastCycle.txBusy = true ∧ lastCycle.txcnt ≤ 1 ∧ lastCycle.txi + 1 = lastCycle.txBits ∧ lastCycle.run = false ∧
      lastCycle.pending = false) ∧
    (({ sending with run := true, ticksIn := [true] } : State).run = true ∧ sending.overTop = false ∧
      ({ sending with run := true, ticksIn := [true] } : State).ticksIn = true :: [] ∧
      ({ sending with run := true, mode := .short, tcnt := 1 } : State).overTop = true ∧
      ({ sending with run := true, ie := true, flag := true } : State).pending = true) := by
  decide

theorem witness_OneBitIsOnePulse :
    sending.cfg.ok ∧ sending.quiet ∧ sending.undisturbed 6 ∧ bitCycles sending.cfg = 6 ∧ sending.dir = .output ∧ sending.txBusy = true ∧ sending.txph = .winA ∧
      sending.txcnt = sending.cfg.txA ∧ sending.out = true ∧ sending.txi < sending.txBits ∧ sending.phase = .sending :=
  ⟨example_ok, ⟨rfl, rfl⟩, ⟨rfl, by decide⟩, rfl, rfl, rfl, rfl, rfl, rfl, by decide, rfl⟩

/-- A frame on the line with the timer left running, a tick every 8 cycles, and its interrupt off. -/
def sendingTimed : State :=
  { sending with
    run := true, tcnt := 200, cfg := { Config.example with prescale := 8 }, ticksIn := tickCycles 8 3 96 }

theorem sendingTimed_ok : sendingTimed.cfg.ok :=
  ⟨⟨example_ok.1.1, example_ok.1.2.1, example_ok.1.2.2.1, example_ok.1.2.2.2.1, by decide, example_ok.1.2.2.2.2.2⟩,
    example_ok.2⟩

theorem witness_WaveformClosedForm :
    (sending.cfg.ok ∧ sending.quiet ∧ sending.undisturbed 96 ∧ 16 * bitCycles sending.cfg = 96 ∧ sending.txBusy = true ∧
      sending.phase = .sending ∧ sending.txBits = 16 ∧ sending.txi = 0 ∧ sending.txph = .winA ∧
      sending.txcnt = sending.cfg.txA ∧ sending.out = true ∧ sending.run = false) ∧
    (sendingTimed.cfg.ok ∧ sendingTimed.undisturbed 96 ∧ sendingTimed.run = true ∧ sendingTimed.mode = .max ∧
      sendingTimed.ticksIn = tickCycles sendingTimed.cfg.prescale 3 (16 * bitCycles sendingTimed.cfg) ++ []) :=
  ⟨⟨example_ok, ⟨rfl, rfl⟩, ⟨rfl, by decide⟩, rfl, rfl, rfl, rfl, rfl, rfl, rfl, rfl, rfl⟩,
    sendingTimed_ok, ⟨rfl, fun _ => ⟨rfl, .inl rfl⟩⟩, rfl, rfl, rfl⟩

/-- The host is about to call `sendCommand`. -/
def beforeSend : State := { initialised with calls := [encode (.sendCommand 0x82C9)] }

theorem witness_SendCommandEndsArmed :
    beforeSend.cfg.ok ∧ beforeSend.quiet ∧ beforeSend.hostTurn = true ∧ beforeSend.ready = true ∧
      beforeSend.undisturbed 97 ∧ 1 + 16 * bitCycles beforeSend.cfg = 97 ∧ beforeSend.cfg.msbFirst = true ∧
      beforeSend.gie = true ∧ beforeSend.otherIrq = false ∧ beforeSend.calls = encode (.sendCommand 0x82C9) :: [] :=
  ⟨example_ok, ⟨rfl, rfl⟩, rfl, rfl, ⟨rfl, by decide⟩, rfl, rfl, rfl, rfl, rfl⟩

theorem witness_WaitingCountsTheTimer :
    ((waiting [true]).phase = .waitingForFirstEdge ∧ (waiting [true]).pinRead = true ∧ (waiting [true]).tcnt ≠ 255) ∧
    (({ waiting [true] with tcnt := 255 } : State).tcnt = 255 ∧ 1 < ({ waiting [true] with tcnt := 255 } : State).budget) := by
  decide

theorem witness_TimeoutRaisesResponseTimeout :
    ({ waiting [true] with tcnt := 255, budget := 1 } : State).phase = .waitingForFirstEdge ∧
    ({ waiting [true] with tcnt := 255, budget := 1 } : State).pinRead = true := by decide

theorem witness_FirstEdgeStartsSampling :
    (waiting [false]).phase = .waitingForFirstEdge ∧ (waiting [false]).pinRead = false := by decide

theorem witness_CountAndEdgeSteps :
    ((sampling false 2 [false]).phase = .sampling ∧ (sampling false 2 [false]).pinRead = (sampling false 2 [false]).prev ∧
      1 < (sampling false 2 [false]).next) ∧
    ((sampling false 2 [true]).pinRead ≠ (sampling false 2 [true]).prev ∧ (sampling false 2 [true]).next ≠ 1) := by decide

theorem witness_SampleShiftsThePin :
    (lastSample.phase = .sampling ∧ lastSample.pinRead = lastSample.prev ∧ lastSample.next = 1 ∧ lastSample.jt = .readBit ∧
      lastSample.ie = true ∧ lastSample.gie = true ∧ lastSample.acc.getLsbD 23 = true ∧ lastSample.Inv) ∧
    ((sampling true 1 [true]).pinRead = (sampling true 1 [true]).prev ∧ (sampling true 1 [true]).acc.getLsbD 23 = false) :=
  ⟨⟨rfl, rfl, rfl, rfl, rfl, rfl, rfl, lastSample_inv⟩, rfl, rfl⟩

theorem witness_CompletionDecodesAcc :
    ({ sampling true 8 [] with carry := true } : State).phase = .sampling ∧
      ({ sampling true 8 [] with carry := true } : State).carry = true := by decide

theorem witness_CollisionAndMaskedSamplerStop :
    ((sampling false 1 [true]).phase = .sampling ∧ (sampling false 1 [true]).next = 1 ∧
      (sampling false 1 [true]).pinRead ≠ (sampling false 1 [true]).prev ∧
      (sampling false 1 [true]).resets.head? ≠ some 0) ∧
    (({ sampling false 1 [false] with gie := false } : State).pinRead = false ∧
      ({ sampling false 1 [false] with gie := false } : State).prev = false) ∧
    (({ sampling false 1 [false] with jt := .none } : State).ie = true ∧
      ({ sampling false 1 [false] with jt := .none } : State).gie = true) := by decide

theorem witness_InterruptEntryRunsTheSampler :
    (interrupted.flag = true ∧ interrupted.ie = true ∧ interrupted.gie = true ∧ interrupted.jt = .readBit ∧
      interrupted.acc.getLsbD 23 = false) ∧
    ({ interrupted with acc := 0x800000 } : State).acc.getLsbD 23 = true ∧
    ({ interrupted with jt := .none } : State).jt = .none := by decide

theorem witness_ExactlyOneReceiverRuleApplies :
    ((waiting [true]).Inv ∧ (waiting [true]).quiet ∧ (waiting [true]).phase = .waitingForFirstEdge ∧
      (waiting [true]).gie = true) ∧
    (lastSample.Inv ∧ lastSample.quiet ∧ lastSample.phase = .sampling ∧ lastSample.gie = true) :=
  ⟨⟨waiting_inv 0 2 (by decide) _, ⟨rfl, rfl⟩, rfl, rfl⟩, lastSample_inv, ⟨rfl, rfl⟩, rfl, rfl⟩

theorem witness_PhaseTransitionsAreThoseOfTheTable :
    (∃ t, ({ State.reset with calls := [[0x03]], ready := true } : State).Inv ∧
      step { State.reset with calls := [[0x03]], ready := true } = .next t ∧ t.phase = .waitingForFirstEdge) ∧
    (∃ t, sending.Inv ∧ sending.resets.head? ≠ some 0 ∧ step sending = .next t) ∧
    (∃ t, (waiting [false]).Inv ∧ step (waiting [false]) = .next t) ∧
    (∃ t, lastSample.Inv ∧ step lastSample = .next t ∧ t.phase = .done) :=
  ⟨⟨_, idle_inv _ _, rfl, rfl⟩, ⟨_, sending_inv, by decide, rfl⟩, ⟨_, waiting_inv 0 2 (by decide) _, rfl⟩,
    ⟨_, lastSample_inv, rfl, rfl⟩⟩

theorem witness_TimeoutComesAtTheExactTick :
    Config.example.ok ∧ ∀ rest, (waiting (List.replicate (256 * 2) true ++ rest)).quiet ∧
      (waiting (List.replicate (256 * 2) true ++ rest)).phase = .waitingForFirstEdge ∧
      (waiting (List.replicate (256 * 2) true ++ rest)).tcnt = 0 ∧
      (waiting (List.replicate (256 * 2) true ++ rest)).budget = Config.example.nTo ∧
      (waiting (List.replicate (256 * 2) true ++ rest)).dir = .input :=
  ⟨example_ok, fun _ => ⟨⟨rfl, rfl⟩, rfl, rfl, rfl, rfl⟩⟩

theorem witness_IdealResponseIsReceived :
    (∀ n ∈ [7, 9], ∀ m ∈ [1, 2, 3], m * n < m * Config.example.tb + Config.example.th ∧
      m * Config.example.tb + Config.example.th < m * n + Config.example.tb) ∧
    (∀ i ∈ List.range 18, ∃ k ∈ List.range 3,
      (false :: dataLevels 0xCBA33)[i + k]? ≠ (false :: dataLevels 0xCBA33)[i + k + 1]?) ∧
    ∀ line, (waiting line).Inv ∧ (waiting line).quiet ∧ (waiting line).gie = true ∧
      (waiting line).phase = .waitingForFirstEdge ∧ (waiting line).tcnt = 0 ∧
      (waiting line).budget = (waiting line).cfg.nTo ∧ (waiting line).dir = .input ∧ 511 < 256 * (waiting line).cfg.nTo ∧
      (waiting line).lineIn = line :=
  ⟨by decide, by decide,
    fun _ => ⟨waiting_inv 0 2 (by decide) _, ⟨rfl, rfl⟩, rfl, rfl, rfl, rfl, rfl, (by decide : 511 < 256 * 2), rfl⟩⟩

theorem witness_HeldLevelCompletes :
    ∀ line, (sampling false 12 line).Inv ∧ (sampling false 12 line).quiet ∧ (sampling false 12 line).gie = true ∧
      (sampling false 12 line).phase = .sampling ∧ (sampling false 12 line).dir = .input ∧
      (sampling false 12 line).lineIn = line :=
  fun _ => ⟨sampling_inv _ _ (by decide) _, ⟨rfl, rfl⟩, rfl, rfl, rfl, rfl⟩

theorem witness_NoisyLineIsNeverSampled :
    (∀ g ∈ [3, 3, 1], 1 ≤ g ∧ g ≤ Config.example.th - 1) ∧ ∀ line, (sampling false 2 line).Inv ∧
      (sampling false 2 line).quiet ∧ (sampling false 2 line).phase = .sampling ∧ (sampling false 2 line).dir = .input ∧
      (sampling false 2 line).next ≠ 1 ∧ (sampling false 2 line).lineIn = line :=
  ⟨by decide, fun _ => ⟨sampling_inv _ _ (by decide) _, ⟨rfl, rfl⟩, rfl, rfl, (by decide : 2 ≠ 1), rfl⟩⟩

theorem witness_UnshiftIsVXorHalfV : 0x0CBA33#24 = 0x0C#8 ++ 0xBA#8 ++ 0x33#8 := by decide

theorem witness_GcrTableIsABijectionOnItsValidSymbols : State.reset.cfg.ok := example_ok

theorem witness_ChecksumAndPacking : Error.badChecksum ≠ .none := by decide

/-- Every clause: 0x0CBA33 decodes; one invalid symbol each; the first of two. -/
theorem witness_DecodeReportsTheFirstError :
    Config.example.ok ∧
    (0x0CBA33#24 ^^^ (0x0CBA33#24 >>> 1)).extractLsb' 0 20 = 0b10101#5 ++ 0b11001#5 ++ 0b11001#5 ++ 0b01010#5 ∧
    gcrRom Config.example 0b00101 = 0xFF ∧ gcrRom Config.example 0b11000 = 0xFF ∧ gcrRom Config.example 0b01000 = 0xFF ∧
    gcrRom Config.example 0b10101 = (5#4).setWidth 8 ∧ gcrRom Config.example 0b11001 = (0#4).setWidth 8 ∧
    gcrRom Config.example 0b01010 = (0xA#4).setWidth 8 :=
  ⟨example_ok, by decide, by decide, by decide, by decide, by decide, by decide, by decide⟩

theorem witness_DecodeInvertsTheEsc : State.reset.cfg = Config.example ∧ Config.example.ok := ⟨rfl, example_ok⟩

theorem witness_ErrorTelemetryAndRpmQueries :
    (0x0500#16).getLsbD 15 = false ∧ Config.example.errOk ∧ (0x8006#16).getLsbD 15 = true ∧
    errorCode Config.example .badChecksum = loByte 0x8006 ∧ (∀ e, errorCode Config.example e ≠ loByte 0x8007) ∧
    (1 ≤ 7 ∧ 1 ≤ (256 + (0x0500#16).toNat % 256) * 2 ^ ((0x0500#16).toNat / 2 ^ 9 % 8)) ∧
    ((plain true false).cfg.edtSupport = false ∧ (0x0000#16).toNat % 512 * 2 ^ ((0x0000#16).toNat / 2 ^ 9 % 8) = 0) ∧
    Config.example.rpmRound = .exact :=
  ⟨by decide, by decide, by decide, by decide, fun e => by cases e <;> decide, by decide, by decide, rfl⟩

theorem witness_ResponseLaws :
    Config.example.errOk ∧ respIsStopped 0x0FFF = true ∧ respClassOf true 0x0500 = .period 2 256 := by decide

theorem witness_FormatWordsAreReadByClass :
    48 ≤ (48#11).toNat ∧ (Instr.resp16Period 0 7 0x1FE).wellFormed = true ∧ State.reset.cfg.errOk ∧
    ∀ e, errorCode State.reset.cfg e ≠ 7 := ⟨by decide, by decide, by decide, fun e => by cases e <;> decide⟩

theorem witness_SymbolWordsReadTheirEntry : State.reset.cfg.ok := example_ok

/-- The host calls `send` in the step whose tick raises the interrupt. -/
def lateSend : State := { running 255 with ie := true, calls := [encode (.send [0xA5] 8)] }

theorem witness_StepRunsTheHostsCall :
    (interrupted.quiet ∧ interrupted.hostTurn = true ∧ interrupted.pending = true ∧
      (∃ t, exec .irqEntry interrupted = .next t ∧ interrupted.run = false) ∧
      ({ interrupted with run := true } : State).overTop = false ∧
      ({ interrupted with run := true, mode := .short, tcnt := 1 } : State).overTop = true ∧
      ({ interrupted with jt := .none } : State).jt = .none) ∧
    (lateSend.quiet ∧ lateSend.hostTurn = true ∧ lateSend.pending = false ∧ lateSend.overTop = false ∧
      ∃ t, exec (.send [0xA5] 8) { lateSend with calls := [] } = .next t ∧
        ({ t with tcnt := 0, flag := true } : State).pending = true ∧
        ({ t with tcnt := 0, flag := true } : State).hostTurn = false) ∧
    (∃ t, exec .enableInterrupt { running 255 with calls := [] } = .next t ∧ t.run = true ∧
      ({ t with tcnt := 0, flag := true } : State).pending = true ∧
      ({ t with tcnt := 0, flag := true } : State).hostTurn = true) ∧
    (∃ e, exec (.sendCommand 0x82C9) State.reset = .refused e) ∧
    (beforeSend.quiet ∧ beforeSend.hostTurn = true ∧ beforeSend.pending = false ∧
      beforeSend.calls = (0x02 :: [0xC9, 0x82]) :: [] ∧ decode [0x02, 0xC9, 0x82] = .ok (.sendCommand 0x82C9, []) ∧
      (Instr.sendCommand 0x82C9).isStep = false) ∧
    (∃ t, exec .start State.reset = .next t ∧ t.pending = false) ∧
    (∃ t, exec .stop State.reset = .next t ∧ t.run = false ∧ t.pending = false) ∧
    ({ State.reset with calls := [[]] } : State).calls = [] :: [] ∧ decode [0x04] = .error (.unknownIdentifier 0x04) ∧
    (decode [0x83] = .ok (.rxWait, []) ∧ Instr.rxWait.isStep = true) :=
  ⟨⟨⟨rfl, rfl⟩, rfl, rfl, ⟨_, rfl, rfl⟩, rfl, rfl, rfl⟩, ⟨⟨rfl, rfl⟩, rfl, rfl, rfl, _, rfl, rfl, rfl⟩,
    ⟨_, rfl, rfl, rfl, rfl⟩, ⟨_, rfl⟩, ⟨⟨rfl, rfl⟩, rfl, rfl, rfl, rfl, rfl⟩, ⟨_, rfl, rfl⟩, ⟨_, rfl, rfl, rfl⟩, rfl, rfl,
    rfl, rfl⟩

theorem witness_StepRunsTheBlocksOwnRule :
    (lastCycle.quiet ∧ lastCycle.hostTurn = false ∧ lastCycle.phase.isHosts = true) ∧
    (sending.quiet ∧ sending.hostTurn = false ∧ sending.txBusy = true) ∧
    (sent.quiet ∧ sent.hostTurn = false ∧ sent.phase = .sending ∧ sent.txBusy = false) ∧
    ((waiting [false]).quiet ∧ (waiting [false]).pinRead = false) ∧
    ((waiting [true]).pinRead = true ∧ (waiting [true]).tcnt ≠ 255) ∧
    ({ waiting [true] with tcnt := 255 } : State).budget = 2 ∧ ({ waiting [true] with budget := 1 } : State).budget = 1 ∧
    ((sampling true 2 [true]).pinRead = (sampling true 2 [true]).prev ∧ 1 < (sampling true 2 [true]).next) ∧
    (lastSample.pinRead = lastSample.prev ∧ lastSample.next = 1) ∧
    ((sampling true 1 [false]).pinRead ≠ (sampling true 1 [false]).prev ∧
      (sampling true 2 [false]).pinRead ≠ (sampling true 2 [false]).prev ∧ (sampling true 2 [false]).next ≠ 1) :=
  ⟨⟨⟨rfl, rfl⟩, by decide⟩, ⟨⟨rfl, rfl⟩, by decide⟩, ⟨⟨rfl, rfl⟩, by decide⟩, ⟨⟨rfl, rfl⟩, by decide⟩, by decide⟩

theorem witness_DecodeInvertsEncode : (Instr.resp16Period 7 7 0x1FF).wellFormed = true := by decide

theorem witness_DecodedIsWellFormed : decode [0xE0, 0x00, 0x06] = .ok (.cmd16Throttle 48 false 0, []) := rfl

end Sys2Proof.Machine
end

section
/-! The environment of the block: OTHER_IRQ, GIE and the configuration, which no step writes (spec/10_state.md R44, section 7;
spec/00_scope.md section 4), after the inversion lemmas of the dispatcher it needs: which instructions write a register at all,
and when a launch goes on. -/

namespace Sys2Proof.Machine

open Sys2Proof

/-! ### What the dispatcher can do -/

theorem ite_refused_eq_next {c : Prop} [Decidable c] {e : Refusal} {r : Result} {t : State} :
    (if c then .refused e else r) = .next t ↔ ¬c ∧ r = .next t := by
  split <;> simp [*]

/-- The instructions that may write a register; every other one only returns a value (44_decoder.md R143, 46_top_level.md
R173). -/
def mayWrite : Instr → Bool
  | .init | .sendCommand _ | .getResponse | .setCounter _ | .setMaxTimeout | .setShortTimeout | .start | .stop | .clearFlag
  | .enableInterrupt | .disableInterrupt | .send _ _ => true
  | i => i.isStep

theorem fromRawValue_returns {c : Int} {b : Bool} {s t : State} (h : fromRawValue c b s = .next t) :
    ∃ v, t = s.returning v := by
  unfold fromRawValue at h
  split at h
  · exact ⟨_, (Host.Outcome.next.inj h).symm⟩
  · cases h

theorem answer_returns {v : Value} {s t : State} (h : answer v s = .next t) : ∃ v, t = s.returning v :=
  ⟨v, (Host.Outcome.next.inj h).symm⟩

/-- An instruction that goes on is one of the writers, or leaves every register as it was. -/
theorem exec_mayWrite_or_returns {i : Instr} {s t : State} (h : exec i s = .next t) :
    mayWrite i = true ∨ ∃ v, t = s.returning v := by
  cases i with
  | init | sendCommand | getResponse | setCounter | setMaxTimeout | setShortTimeout | start | stop | clearFlag
  | enableInterrupt | disableInterrupt | send | tickMax | tickShort | txStep | rxWait | rxOvf | rxTimeout | rxFirstEdge
  | rxCount | rxEdge | rxSample | rxComplete | rxCollide | irqEntry => exact .inl rfl
  | hasOverflowed => exact .inr (answer_returns (asHost_eq_next.mp h).2)
  | fromRaw | fromThrottle => exact .inr (fromRawValue_returns h)
  | scaleToCommandMax x =>
    simp only [exec, execScaleToCommandMax] at h
    split at h
    · exact .inr (answer_returns h)
    · cases h
  | fromNormalized x b =>
    simp only [exec, execFromNormalized] at h
    split at h
    · exact .inr (fromRawValue_returns h)
    · cases h
  | fromSpecial c b =>
    simp only [exec, execFromSpecial] at h
    split at h
    · exact .inr (fromRawValue_returns h)
    · cases h
  | fromError e => exact .inr (answer_returns (ite_refused_eq_next.mp h).2)
  | getError r =>
    simp only [exec, execGetError] at h
    split at h
    · split at h
      · exact .inr (answer_returns h)
      · cases h
    · exact .inr (answer_returns h)
  | getRPM r p =>
    simp only [exec, execGetRPM] at h
    split at h
    · exact .inr (answer_returns h)
    · cases h
  | _ => exact .inr (answer_returns h)

/-- `sendCommand` goes on exactly in the host's turn after `init()`, MSB first, under the interrupt discipline (R127). -/
theorem exec_sendCommand_eq_next {w : BitVec 16} {s t : State} :
    exec (.sendCommand w) s = .next t ↔
      s.hostTurn = true ∧ s.ready = true ∧ s.cfg.msbFirst = true ∧ s.irqDiscipline = true ∧
        t = ({ s with cmd := w, done := false, phase := .sending, dir := .output, ret := .unit } : State).launched .frame := by
  simp only [exec, execSendCommand, asHost_eq_next, ite_refused_eq_next, Host.Outcome.next.injEq, Bool.not_eq_true',
    Bool.not_eq_false, eq_comm (b := t)]

/-- `send` goes on exactly in the host's turn, with no other interrupt source and the bits within the buffer (R117, R120). -/
theorem exec_send_eq_next {bytes : List Byte} {n : Nat} {s t : State} :
    exec (.send bytes n) s = .next t ↔
      s.hostTurn = true ∧ s.otherIrq = false ∧ n ≤ 8 * bytes.length ∧
        t = (s.returning .unit).launched (.buffer bytes n) := by
  simp only [exec, execSend, asHost_eq_next, ite_refused_eq_next, Host.Outcome.next.injEq, Bool.not_eq_true, Nat.not_lt,
    eq_comm (b := t)]

/-- `getResponse` that goes on arms the receiver, as stage 3 of `sendCommand` or called by the host (R128). -/
theorem exec_getResponse_cases {s t : State} (h : exec .getResponse s = .next t) :
    (s.phase = .sending ∧ s.txBusy = false ∧ t = (s.setDir .input).armed) ∨
    (s.hostTurn = true ∧ s.ready = true ∧ s.cfg.msbFirst = true ∧ s.irqDiscipline = true ∧ t = s.armed) := by
  simp only [exec, execGetResponse] at h
  split at h
  · rename_i hs
    exact .inl ⟨hs.1, hs.2, (Host.Outcome.next.inj h).symm⟩
  · simp only [asHost_eq_next, ite_refused_eq_next, Host.Outcome.next.injEq, Bool.not_eq_true', Bool.not_eq_false,
      eq_comm (b := t)] at h
    exact .inr h

/-! ### The environment -/

/-- What the block never writes: OTHER_IRQ, GIE and the configuration. -/
def State.environment (s : State) : Bool × Bool × Config := (s.otherIrq, s.gie, s.cfg)

theorem environment_eq_iff {s t : State} :
    t.environment = s.environment ↔ t.otherIrq = s.otherIrq ∧ t.gie = s.gie ∧ t.cfg = s.cfg := by
  simp [State.environment]

@[simp] theorem environment_setFlag (s : State) (b : Bool) : (s.setFlag b).environment = s.environment := rfl

@[simp] theorem environment_ticked (s : State) : s.ticked.environment = s.environment := rfl

@[simp] theorem environment_afterReset (s : State) : s.afterReset.environment = s.environment := rfl

@[simp] theorem environment_nextLevel (s : State) : s.nextLevel.environment = s.environment := by
  obtain ⟨_, _, e⟩ := nextLevel_fields s
  rw [e]; rfl

@[simp] theorem environment_launched (s : State) (src : TxSrc) : (s.launched src).environment = s.environment := by
  obtain ⟨_, _, _, _, e⟩ := launched_fields s src
  rw [e]; rfl

@[simp] theorem environment_sampled (s : State) (l : Level) : (s.sampled l).environment = s.environment := by
  obtain ⟨_, _, _, _, _, _, _, _, _, _, e⟩ := sampled_fields s l
  rw [e]; rfl

theorem environment_of_txCycle {s t : State} (h : s.txCycle = .next t) : t.environment = s.environment := by
  obtain ⟨_, _, _, _, _, _, _, _, _, rfl⟩ := txCycle_fields h
  rfl

theorem environment_of_takeInterrupt {s t : State} (h : takeInterrupt s = .next t) : t.environment = s.environment := by
  obtain ⟨-, rfl⟩ := takeInterrupt_eq_next.mp h
  simp

theorem environment_of_onlyIf {b : Bool} {s t u : State} (h : onlyIf b (.next u) = .next t)
    (hu : u.environment = s.environment) : t.environment = s.environment := by
  obtain ⟨-, h⟩ := onlyIf_eq_next.mp h
  cases h
  exact hu

theorem environment_of_hostWrite {s t u : State} (h : hostWrite s u = .next t) (hu : u.environment = s.environment) :
    t.environment = s.environment := by
  obtain ⟨-, rfl⟩ := hostWrite_eq_next.mp h
  exact hu

/-- No instruction writes the environment. -/
theorem exec_environment {i : Instr} {s t : State} (h : exec i s = .next t) : t.environment = s.environment := by
  rcases exec_mayWrite_or_returns h with hw | ⟨v, rfl⟩
  swap
  · rfl
  cases i with
  | init | setCounter | setMaxTimeout | setShortTimeout | start | stop | clearFlag | enableInterrupt | disableInterrupt =>
    exact environment_of_hostWrite h rfl
  | sendCommand w =>
    obtain ⟨-, -, -, -, rfl⟩ := exec_sendCommand_eq_next.mp h
    exact environment_launched _ _
  | send bytes n =>
    obtain ⟨-, -, -, rfl⟩ := exec_send_eq_next.mp h
    exact environment_launched _ _
  | getResponse =>
    rcases exec_getResponse_cases h with ⟨-, -, rfl⟩ | ⟨-, -, -, -, rfl⟩
    · rfl
    · rfl
  | tickMax | rxComplete => exact environment_of_onlyIf h rfl
  | tickShort =>
    obtain ⟨-, h⟩ := onlyIf_eq_next.mp h
    obtain ⟨-, h⟩ := ite_refused_eq_next.mp h
    cases h; rfl
  | txStep => exact environment_of_txCycle (onlyIf_eq_next.mp h).2
  | rxWait | rxOvf | rxTimeout => exact environment_of_onlyIf h (environment_nextLevel _)
  | rxFirstEdge => exact environment_of_onlyIf h (environment_nextLevel s.shortMode.loosenTcnt)
  | rxCount | rxEdge | rxCollide => exact environment_of_onlyIf h (environment_nextLevel s.loosenTcnt)
  | rxSample =>
    obtain ⟨-, h⟩ := onlyIf_eq_next.mp h
    split at h
    · exact (environment_of_takeInterrupt h).trans rfl
    · cases h
  | irqEntry => exact environment_of_takeInterrupt (onlyIf_eq_next.mp h).2
  | _ => cases hw

theorem tickAlong_environment {i : Instr} {s t u : State} (h : tickAlong i s t = .next u) :
    u.environment = t.environment := by
  rcases tickAlong_cases h with rfl | ⟨-, -, -, -, rfl⟩
  · rfl
  · rfl

theorem serviced_environment {s t : State} (h : serviced s = .next t) : t.environment = s.environment := by
  rcases serviced_cases h with ⟨-, rfl⟩ | ⟨-, -, -, rfl⟩
  · rfl
  · simp

theorem callStep_environment {i : Instr} {s u : State} (h : callStep i s = .next u) : u.environment = s.environment := by
  obtain ⟨t, t', hexec, htick, hserv⟩ := callStep_cases h
  calc u.environment = t'.environment := serviced_environment hserv
    _ = t.environment := tickAlong_environment htick
    _ = s.environment := exec_environment hexec

theorem idleStep_environment {s u : State} (h : idleStep s = .next u) : u.environment = s.environment := by
  rcases idleStep_cases h with ⟨-, rfl⟩ | ⟨-, -, h⟩
  · rfl
  · exact (serviced_environment h).trans (environment_ticked s)

theorem hostStep_environment {s u : State} (h : hostStep s = .next u) : u.environment = s.environment := by
  rcases hostStep_cases h with ⟨-, t, hexec, htick⟩ | ⟨-, rest, h⟩ | ⟨-, b, bs, rest, i, r, -, -, -, h⟩
  · exact (tickAlong_environment htick).trans (exec_environment hexec)
  · exact idleStep_environment (s := { s with calls := rest }) h
  · exact callStep_environment (s := { s with calls := rest }) h

theorem advance_environment {s t : State} (h : advance s = .next t) : t.environment = s.environment := by
  obtain ⟨-, ⟨-, h⟩ | ⟨-, i, -, h⟩⟩ := advance_cases h
  · exact hostStep_environment h
  · exact exec_environment h

/-- No step writes the environment, the watchdog's reset included. -/
theorem step_environment {s t : State} (h : step s = .next t) : t.environment = s.environment := by
  rcases step_cases s with ⟨-, hr⟩ | ⟨r, ha⟩
  · rw [hr] at h
    cases h
    exact environment_afterReset s
  · exact advance_environment (s := { s with resets := r }) (ha ▸ h)

/-- Settles O4: every step keeps the environment, and `sendCommand` goes on only under the interrupt discipline. -/
theorem theBlockNeverWritesTheEnvironmentsRegisters : Obligations.TheBlockNeverWritesTheEnvironmentsRegisters := by
  refine ⟨fun s t h => environment_eq_iff.mp (step_environment h), fun w s t h => ?_⟩
  obtain ⟨-, -, -, hirq, -⟩ := exec_sendCommand_eq_next.mp h
  simpa [State.irqDiscipline, and_comm] using hirq

end Sys2Proof.Machine
end

section
/-! The timer as the host drives it (spec/40_pulse_timer.md sections 2 and 3): the step of a host's turn, with a call and
without, the tick of either mode, and the counting of a timer that is left alone. -/

namespace Sys2Proof.Machine

open Sys2Proof

/-! ### A step of the host's turn -/

theorem step_of_quiet {s : State} (hq : s.quiet) : step s = advance s := step_of_none hq.1

theorem step_of_turn {s : State} (hq : s.quiet) (h : s.hostTurn = true) : step s = hostStep s := by
  rw [step_of_quiet hq, advance_of_turn hq.2 h]

theorem hostStep_of_noCall {s : State} (hp : s.pending = false) (hc : s.calls = []) : hostStep s = idleStep s := by
  simp [hostStep, hp, hc]

theorem hostStep_of_call {s : State} {b : Byte} {bs : List Byte} {rest : List (List Byte)} {i : Instr} {r : List Byte}
    (hp : s.pending = false) (hc : s.calls = (b :: bs) :: rest) (hd : decode (b :: bs) = .ok (i, r))
    (hi : i.isStep = false) : hostStep s = callStep i { s with calls := rest } := by
  simp [hostStep, hp, hc, hd, hi]

theorem tickAlong_of_noTick {i : Instr} (h : hasTick i = false) (s t : State) : tickAlong i s t = .next t := by
  simp [tickAlong, h]

theorem serviced_of_notPending {s : State} (h : s.pending = false) : serviced s = .next s := by simp [serviced, h]

/-- A call that goes on, takes no tick and leaves no interrupt pending is the whole of its step. -/
theorem callStep_of_noTick {i : Instr} {s t : State} (he : exec i s = .next t) (ht : hasTick i = false)
    (hp : t.pending = false) : callStep i s = .next t := by
  rw [callStep, he, andThen_next, tickAlong_of_noTick ht, andThen_next, serviced_of_notPending hp]

theorem idleStep_of_stopped {s : State} (h : s.run = false) : idleStep s = .next s := by simp [idleStep_eq, h]

/-! ### A tick -/

theorem overTop_max {s : State} (h : s.mode = .max) : s.overTop = false := by simp [State.overTop, h]

theorem overTop_short {s : State} (h : s.mode = .short) : s.overTop = decide (s.top.toNat < s.tcnt.toNat) := by
  simp [State.overTop, h]

/-- A count within the limit of its mode is one a tick is defined for (R95, U6). -/
theorem overTop_of_le_limit {s : State} (h : s.tcnt.toNat ≤ s.limit.toNat) : s.overTop = false := by
  cases hm : s.mode with
  | max => exact overTop_max hm
  | short =>
    rw [limit_short hm] at h
    rw [overTop_short hm, decide_eq_false_iff_not]
    omega

theorem ticked_of_eq_limit {s : State} (h : s.tcnt = s.limit) : s.ticked = { s with tcnt := 0#8, flag := true } := by
  rcases ticked_cases s with ⟨-, ht⟩ | ⟨hn, -⟩
  · exact ht
  · exact absurd h hn

theorem ticked_of_ne_limit {s : State} (h : s.tcnt ≠ s.limit) : s.ticked = { s with tcnt := s.tcnt + 1#8 } := by
  rcases ticked_cases s with ⟨he, -⟩ | ⟨-, ht⟩
  · exact absurd he h
  · exact ht

/-- The tick in max-timeout mode (R94). -/
theorem exec_tickMax_of_run {s : State} (hr : s.run = true) (hm : s.mode = .max) :
    exec .tickMax s =
      .next (if s.tcnt = 255#8 then { s with tcnt := 0#8, flag := true } else { s with tcnt := s.tcnt + 1#8 }) := by
  have hexec : exec .tickMax s = .next s.ticked := by simp [exec, execTickMax, hr, hm]
  rw [hexec, ← limit_max hm]
  split
  · rw [ticked_of_eq_limit ‹_›]
  · rw [ticked_of_ne_limit ‹_›]

/-- A tick in short mode with TCNT above TOP (R95, U6). -/
theorem exec_tickShort_of_overTop {s : State} (hr : s.run = true) (hm : s.mode = .short)
    (h : s.top.toNat < s.tcnt.toNat) : exec .tickShort s = .refused .counterAboveTop := by
  simp [exec, execTickShort, hr, hm, overTop_short hm, h]

/-! ### A timer left alone -/

theorem pending_of_polled {s : State} (h : s.ie = false) : s.pending = false := by simp [State.pending, h]

/-- The host leaves the running timer alone and no interrupt can come of it: every step is a tick. -/
structure State.FreeRunning (s : State) : Prop where
  turn : s.hostTurn = true
  quiet : s.quiet
  noCall : s.calls = []
  polled : s.ie = false
  running : s.run = true

theorem State.FreeRunning.withCount {s : State} (h : s.FreeRunning) (v : Byte) :
    ({ s with tcnt := v } : State).FreeRunning := ⟨h.turn, h.quiet, h.noCall, h.polled, h.running⟩

/-- A step of the timer left alone is its tick. -/
theorem State.FreeRunning.step_eq {s : State} (h : s.FreeRunning) (ho : s.overTop = false) :
    step s = .next s.ticked := by
  have hserv : serviced s.ticked = .next s.ticked := serviced_of_notPending (pending_of_polled (s := s.ticked) h.polled)
  rw [step_of_turn h.quiet h.turn, hostStep_of_noCall (pending_of_polled h.polled) h.noCall, idleStep_eq]
  simp [h.running, ho, hserv]

/-- Up to the limit of its mode the timer counts one a step. -/
theorem State.FreeRunning.runsTo_count {s : State} (h : s.FreeRunning) (k : Nat)
    (hk : s.tcnt.toNat + k ≤ s.limit.toNat) : RunsTo k s { s with tcnt := s.tcnt + BitVec.ofNat 8 k } := by
  induction k generalizing s with
  | zero => simp
  | succ k ih =>
    have hne : s.tcnt ≠ s.limit := fun he => by rw [he] at hk; omega
    have hsucc : (s.tcnt + 1#8).toNat = s.tcnt.toNat + 1 := by rw [BitVec.toNat_add, BitVec.toNat_ofNat]; omega
    have hstep : step s = .next { s with tcnt := s.tcnt + 1#8 } := by
      rw [h.step_eq (overTop_of_le_limit (by omega)), ticked_of_ne_limit hne]
    have hrest := ih (h.withCount (s.tcnt + 1#8)) (by
      change (s.tcnt + 1#8).toNat + k ≤ s.limit.toNat
      omega)
    have hsum : s.tcnt + 1#8 + BitVec.ofNat 8 k = s.tcnt + BitVec.ofNat 8 (k + 1) := by
      rw [BitVec.add_assoc, Nat.add_comm k 1, ← BitVec.ofNat_add]
    exact runsTo_succ.mpr ⟨_, hstep, hsum ▸ hrest⟩

/-- It first sets FLAG, and starts again at 0, one step after it reaches the limit (R94, R95). -/
theorem State.FreeRunning.runsTo_wrap {s : State} (h : s.FreeRunning) (hle : s.tcnt.toNat ≤ s.limit.toNat) :
    RunsTo (s.limit.toNat - s.tcnt.toNat + 1) s { s with tcnt := 0#8, flag := true } := by
  have hcount := h.runsTo_count (s.limit.toNat - s.tcnt.toNat) (by omega)
  have hlimit : s.tcnt + BitVec.ofNat 8 (s.limit.toNat - s.tcnt.toNat) = s.limit := by
    apply BitVec.eq_of_toNat_eq
    rw [BitVec.toNat_add, BitVec.toNat_ofNat]
    omega
  rw [hlimit] at hcount
  have hstep : step { s with tcnt := s.limit } = .next { s with tcnt := 0#8, flag := true } := by
    rw [(h.withCount s.limit).step_eq (overTop_of_le_limit (Nat.le_refl s.limit.toNat))]
    exact congrArg Host.Outcome.next (ticked_of_eq_limit (s := { s with tcnt := s.limit }) rfl)
  exact runsTo_trans hcount (runsTo_one hstep)

/-! ### The statements -/

theorem exec_hasOverflowed_of_turn {s : State} (h : s.hostTurn = true) :
    exec .hasOverflowed s = .next { s with ret := .bit s.flag } := asHost_of_turn h _

/-- Settles O16: the read keeps FLAG; the 255 ticks before the wrap leave it clear, the 256th sets it. -/
theorem hasOverflowedReadsFlag : Obligations.HasOverflowedReadsFlag := by
  refine ⟨fun s h => exec_hasOverflowed_of_turn h, fun s ht hq hc hie hm hr hz hf => ?_⟩
  have hfree : s.FreeRunning := ⟨ht, hq, hc, hie, hr⟩
  have hlimit : s.limit = 255#8 := limit_max hm
  have hcount : RunsTo 255 s { s with tcnt := s.tcnt + BitVec.ofNat 8 255 } :=
    hfree.runsTo_count 255 (by rw [hz, hlimit]; decide)
  have hwrap : RunsTo 256 s { s with tcnt := 0#8, flag := true } := by
    have h := hfree.runsTo_wrap (by rw [hz]; exact Nat.zero_le _)
    rw [hz, hlimit] at h
    exact h
  refine ⟨_, _, hcount, ?_, hwrap, exec_hasOverflowed_of_turn ht⟩
  rw [← hf]
  exact exec_hasOverflowed_of_turn ht

/-- Settles O11: the whole step is the call's alone, since a call that writes TCNT has no tick beside it. -/
theorem setCounterWritesTcnt : Obligations.SetCounterWritesTcnt := by
  intro v s ht
  refine ⟨hostWrite_of_turn ht, fun rest hq hp hc => ?_, fun hr hm hv => exec_tickShort_of_overTop hr hm hv⟩
  calc step s = hostStep s := step_of_turn hq ht
    _ = callStep (.setCounter v) { s with calls := rest } := hostStep_of_call hp hc (r := []) rfl rfl
    _ = .next { s with tcnt := v, calls := rest, ret := .unit } :=
      callStep_of_noTick (hostWrite_of_turn (s := { s with calls := rest }) ht) rfl hp

/-- Settles O12: TCNT is kept, and the next tick compares it with 255. -/
theorem setMaxTimeoutWritesMode : Obligations.SetMaxTimeoutWritesMode := by
  intro s ht
  exact ⟨_, hostWrite_of_turn ht, rfl, fun hr => exec_tickMax_of_run hr rfl⟩

/-- The TOP that `setShortTimeout` writes is TB - 1, which a byte holds (R98; 00_scope.md section 4). -/
theorem shortMode_top_toNat {s : State} (h : s.cfg.rxOk) : s.shortMode.top.toNat = s.cfg.tb - 1 := by
  obtain ⟨-, hmax, -⟩ := h
  rw [State.shortMode_top, BitVec.toNat_ofNat]
  omega

/-- Settles O13: TCNT is kept, so it may be above the new TOP, where the tick is refused. -/
theorem setShortTimeoutWritesModeAndTop : Obligations.SetShortTimeoutWritesModeAndTop := by
  intro s ht hcfg
  have htop := shortMode_top_toNat hcfg
  exact ⟨_, hostWrite_of_turn ht, rfl, htop, fun hr hlt => exec_tickShort_of_overTop hr rfl (htop.trans_lt hlt)⟩

/-- Settles O14: a second call writes what the first wrote; a stopped timer's step changes nothing. -/
theorem startAndStopWriteRun : Obligations.StartAndStopWriteRun := by
  intro s ht
  constructor
  · refine ⟨_, hostWrite_of_turn ht, rfl, hostWrite_of_turn ht, fun hm hz => ?_⟩
    have htick := exec_tickMax_of_run (s := (s.setRun true).returning .unit) rfl hm
    simpa [hz] using htick
  · refine ⟨_, hostWrite_of_turn ht, rfl, hostWrite_of_turn ht, fun hq hp hc => ?_⟩
    rw [step_of_turn hq ht, hostStep_of_noCall hp hc, idleStep_of_stopped rfl]

/-- Settles O17: FLAG is pending exactly as IE and GIE let it be, and the tick at the limit sets it. -/
theorem interruptEnableAndDisableWriteIe : Obligations.InterruptEnableAndDisableWriteIe := by
  intro s ht
  constructor
  · refine ⟨_, hostWrite_of_turn ht, rfl, fun hg => ⟨by simp [State.pending, hg], fun hl => ?_⟩⟩
    rw [ticked_of_eq_limit (s := (s.setIe true).returning .unit) hl]
    simp [State.pending, hg]
  · exact ⟨_, hostWrite_of_turn ht, rfl, pending_of_polled rfl, exec_hasOverflowed_of_turn ht⟩

end Sys2Proof.Machine
end

section
/-! The command codec (spec/41_command_codec.md): the checksum as the XOR of three nibbles, the fields of a frame a
constructor returns, the two bytes of a frame joined, and the monotonic scaling of a real operand. -/

namespace Sys2Proof.Machine

open Sys2Proof

/-! ### The checksum (R107) -/

/-- x = {c, t}, the 12 bits the checksum is taken of. -/
def crcInput (c : BitVec 11) (t : Bool) : BitVec 12 := c ++ BitVec.ofBool t

theorem crcInput_toNat (c : BitVec 11) (t : Bool) : (crcInput c t).toNat = 2 * c.toNat + t.toNat := by
  rw [crcInput, BitVec.toNat_append, BitVec.toNat_ofBool, ← Nat.shiftLeft_add_eq_or_of_lt t.toNat_lt, Nat.shiftLeft_eq]
  omega

/-- x XOR x >> 4 XOR x >> 8, masked to 4 bits. -/
def foldNibbles (x : BitVec 12) : Nibble := (x ^^^ (x >>> 4) ^^^ (x >>> 8)).extractLsb' 0 4

theorem extractLsb'_zero_ushiftRight {w : Nat} (x : BitVec w) (k n : Nat) :
    (x >>> k).extractLsb' 0 n = x.extractLsb' k n := by
  ext i hi
  simp

theorem foldNibbles_eq_xor (x : BitVec 12) :
    foldNibbles x = x.extractLsb' 0 4 ^^^ x.extractLsb' 4 4 ^^^ x.extractLsb' 8 4 := by
  simp only [foldNibbles, BitVec.extractLsb'_xor, extractLsb'_zero_ushiftRight]

theorem crc4_eq (inv : Bool) (c : BitVec 11) (t : Bool) :
    crc4 inv c t = if inv then foldNibbles (crcInput c t) ^^^ 0xF#4 else foldNibbles (crcInput c t) := by
  rw [foldNibbles, ← BitVec.setWidth_eq_extractLsb' (by decide)]
  rfl

theorem exec_crc (c : BitVec 11) (t : Bool) (s : State) :
    exec (.crc c t) s = .next { s with ret := .u4 (crc4 s.cfg.inv c t) } := rfl

/-- Settles O20: `crc4` is the masked fold of x, and masking goes through the XOR and the shifts. -/
theorem crcIsTheXorOfThreeNibbles : Obligations.CrcIsTheXorOfThreeNibbles := by
  intro c t s
  refine ⟨crcInput c t, foldNibbles (crcInput c t), crcInput_toNat c t, rfl, foldNibbles_eq_xor _, ?_⟩
  rw [exec_crc, crc4_eq]

/-! ### The frame a constructor returns (R108 to R112) -/

@[simp] theorem commandValue_packCommand (inv : Bool) (c : BitVec 11) (t : Bool) :
    commandValue (packCommand inv c t) = c := commandValue_cmd16Word c t _

@[simp] theorem commandT_packCommand (inv : Bool) (c : BitVec 11) (t : Bool) : commandT (packCommand inv c t) = t :=
  commandT_cmd16Word c t _

@[simp] theorem commandCrc_packCommand (inv : Bool) (c : BitVec 11) (t : Bool) :
    commandCrc (packCommand inv c t) = crc4 inv c t := commandCrc_cmd16Word c t _

theorem fromRawValue_eq_next {c : Int} {t : Bool} {s u : State} :
    fromRawValue c t s = .next u ↔
      (0 ≤ c ∧ c ≤ 2047) ∧ u = s.returning (.command (packCommand s.cfg.inv (BitVec.ofNat 11 c.toNat) t)) := by
  unfold fromRawValue
  split <;> simp [*, eq_comm (b := u)]

/-- A constructor that goes on returns the frame of some command value and telemetry bit. -/
theorem exec_constructor_packs {i : Instr} {s u : State}
    (hi : (∃ c t, i = .fromRaw c t) ∨ (∃ n t, i = .fromThrottle n t) ∨ (∃ x t, i = .fromNormalized x t) ∨
      (∃ c t, i = .fromSpecial c t))
    (h : exec i s = .next u) : ∃ c t, u = s.returning (.command (packCommand s.cfg.inv c t)) := by
  rcases hi with ⟨c, t, rfl⟩ | ⟨n, t, rfl⟩ | ⟨x, t, rfl⟩ | ⟨c, t, rfl⟩
  · exact ⟨_, _, (fromRawValue_eq_next.mp h).2⟩
  · exact ⟨_, _, (fromRawValue_eq_next.mp h).2⟩
  · simp only [exec, execFromNormalized] at h
    split at h
    · exact ⟨_, _, (fromRawValue_eq_next.mp h).2⟩
    · cases h
  · simp only [exec, execFromSpecial] at h
    split at h
    · exact ⟨_, _, (fromRawValue_eq_next.mp h).2⟩
    · cases h

theorem exec_fromSpecial_of_lt {c : BitVec 6} (h : c.toNat < 48) (t : Bool) (s : State) :
    exec (.fromSpecial c t) s = exec (.fromRaw c.toNat t) s := if_pos h

/-- Settles O24: `fromSpecial` is `fromRaw` of the number, which the 11 bits of the command value hold. -/
theorem fromSpecialIsTheRawCommand : Obligations.FromSpecialIsTheRawCommand := by
  intro c t s hc
  have hraw := fromRawValue_of_range (c := c.toNat) ⟨by omega, by omega⟩ t s
  refine ⟨_, (exec_fromSpecial_of_lt hc t s).trans hraw, hraw, ?_⟩
  rw [commandValue_packCommand, BitVec.toNat_ofNat, Int.toNat_natCast]
  omega

/-! ### The two bytes joined (R113) -/

/-- `(commandHigh << 3) | commandLow` is the field `c` of the frame. -/
theorem rawOf_eq_commandValue (f : BitVec 16) : rawOf f = commandValue f := by
  apply BitVec.eq_of_getLsbD_eq
  intro i hi
  by_cases hlow : i < 3
  · simp [rawOf, commandHigh, commandLow, commandValue, hiByte, loByte, hlow, hi, -BitVec.getLsbD_eq_getElem]
  · have hhigh : i - 3 < 8 := by omega
    have hbit : 8 + (i - 3) = 5 + i := by omega
    simp [rawOf, commandHigh, commandLow, commandValue, hiByte, loByte, hlow, hi, hhigh, hbit,
      show i - 3 < 11 by omega, -BitVec.getLsbD_eq_getElem]

theorem commandValue_toNat (f : BitVec 16) :
    (commandValue f).toNat = (hiByte f).toNat * 8 + (loByte f).toNat / 32 := by
  simp only [commandValue, hiByte, loByte, BitVec.extractLsb'_toNat, Nat.shiftRight_eq_div_pow]
  omega

theorem exec_getRaw (f : BitVec 16) (s : State) :
    exec (.getRaw f) s = .next { s with ret := .u11 (commandValue f) } := by
  rw [← rawOf_eq_commandValue]
  rfl

/-- Settles O25: `getRaw` answers the field `c`, bits 15 to 5, which is byte 0 above the top bits of byte 1. -/
theorem getRawJoinsTheTwoBytes : Obligations.GetRawJoinsTheTwoBytes := fun f s =>
  ⟨commandValue f, exec_getRaw f s, commandValue_toNat f, rfl⟩

/-! ### The scaling (R110) -/

/-- Under the cut, the fraction r/d past an integer goes down to it. -/
def GoesDown (cut : Cut) (r d : Nat) : Prop :=
  r * cut.den < cut.num * d ∨ (cut.down = true ∧ r * cut.den = cut.num * d)

/-- A fraction no greater than one that goes down goes down. -/
theorem GoesDown.of_le {cut : Cut} {r d r' d' : Nat} (h : GoesDown cut r' d') (hd : 0 < d) (hd' : 0 < d')
    (hle : r * d' ≤ r' * d) : GoesDown cut r d := by
  have hscaled : r * cut.den * d' ≤ r' * cut.den * d := by
    calc r * cut.den * d' = r * d' * cut.den := by ring
      _ ≤ r' * d * cut.den := Nat.mul_le_mul_right _ hle
      _ = r' * cut.den * d := by ring
  rcases h with hlt | ⟨hdown, heq⟩
  · refine .inl (Nat.lt_of_mul_lt_mul_right (a := d') ?_)
    calc r * cut.den * d' ≤ r' * cut.den * d := hscaled
      _ < cut.num * d' * d := Nat.mul_lt_mul_of_pos_right hlt hd
      _ = cut.num * d * d' := by ring
  · have hcut : r * cut.den ≤ cut.num * d := by
      refine Nat.le_of_mul_le_mul_right ?_ hd'
      calc r * cut.den * d' ≤ r' * cut.den * d := hscaled
        _ = cut.num * d * d' := by rw [heq]; ring
    rcases Nat.lt_or_eq_of_le hcut with hlt | he
    · exact .inl hlt
    · exact .inr ⟨hdown, he⟩

theorem scaleRound_eq_floor_iff (cuts : List Cut) (p d : Nat) :
    scaleRound cuts p d = p / d ↔ p % d = 0 ∨ ∀ cut, cuts[p / d]? = some cut → GoesDown cut (p % d) d := by
  unfold scaleRound
  split
  · simp [*]
  · split
    · simp [*]
    · rename_i hrem _ cut hcut
      simp only [hrem, hcut, Option.some.injEq, forall_eq', false_or, GoesDown]
      split <;> simp [*]

/-- SCALE_ROUND is monotonic in the fraction p/d, whatever the cuts. -/
theorem scaleRound_mono (cuts : List Cut) {p d p' d' : Nat} (hd : 0 < d) (hd' : 0 < d') (h : p * d' ≤ p' * d) :
    scaleRound cuts p d ≤ scaleRound cuts p' d' := by
  obtain ⟨-, hup, -⟩ := scaleRound_bounds cuts p d
  obtain ⟨hdown, hup', -⟩ := scaleRound_bounds cuts p' d'
  have hfloor : p / d ≤ p' / d' := by
    rw [← Nat.mul_div_mul_right p d hd', Nat.mul_comm d, ← Nat.mul_div_mul_right p' d' hd]
    exact Nat.div_le_div_right h
  rcases Nat.lt_or_eq_of_le hfloor with hlt | heq
  · omega
  · have hrem : p % d * d' ≤ p' % d' * d := by
      have hp := Nat.div_add_mod p d
      have hp' := Nat.div_add_mod p' d'
      rw [← heq] at hp'
      rw [← hp, ← hp'] at h
      linarith
    suffices hfix : scaleRound cuts p' d' = p' / d' → scaleRound cuts p d = p / d by omega
    rw [scaleRound_eq_floor_iff, scaleRound_eq_floor_iff]
    rintro (hz | hcut)
    · rw [hz, Nat.zero_mul, Nat.le_zero, Nat.mul_eq_zero] at hrem
      exact .inl (hrem.resolve_right hd'.ne')
    · right
      intro cut hc
      exact (hcut cut (heq ▸ hc)).of_le hd hd' hrem

/-- Below 1 a real scales to at most Max. -/
theorem scaleRound_le_max (cuts : List Cut) {n d : Nat} (h : n < d) : scaleRound cuts (n * commandMax) d ≤ commandMax := by
  obtain ⟨-, hup, -⟩ := scaleRound_bounds cuts (n * commandMax) d
  have hfloor : n * commandMax / d < commandMax := by
    rw [Nat.div_lt_iff_lt_mul (by omega), Nat.mul_comm commandMax]
    exact Nat.mul_lt_mul_of_pos_right h (by decide)
  omega

/-- The command a finite real scales to: 0 up to 0, Max from 1, and SCALE_ROUND of Max times the real between. -/
def scaleFin (cuts : List Cut) (q : Rat) : Nat :=
  if q ≤ 0 then 0 else if 1 ≤ q then commandMax else scaleRound cuts (q.num.toNat * commandMax) q.den

theorem scaleReal_fin (cuts : List Cut) (q : Rat) : scaleReal cuts (.fin q) = some (scaleFin cuts q) := by
  have hone : (q.den : Int) ≤ q.num ↔ 1 ≤ q := by simp [Rat.le_iff]
  simp only [scaleReal, scaleFin, Rat.num_nonpos, hone]
  split
  · rfl
  · split <;> rfl

theorem scaleFin_of_nonpos (cuts : List Cut) {q : Rat} (h : q ≤ 0) : scaleFin cuts q = 0 := if_pos h

theorem scaleFin_of_one_le (cuts : List Cut) {q : Rat} (h : 1 ≤ q) : scaleFin cuts q = commandMax := by
  have hpos : ¬ q ≤ 0 := by linarith
  rw [scaleFin, if_neg hpos, if_pos h]

theorem scaleFin_of_between (cuts : List Cut) {q : Rat} (hz : 0 < q) (ho : q < 1) :
    scaleFin cuts q = scaleRound cuts (q.num.toNat * commandMax) q.den := by
  rw [scaleFin, if_neg (not_le.mpr hz), if_neg (not_le.mpr ho)]

/-- The order of nonnegative rationals, multiplied out in the naturals. -/
theorem toNat_num_mul_den_le {p q : Rat} (hp : 0 ≤ p) (h : p ≤ q) : p.num.toNat * q.den ≤ q.num.toNat * p.den := by
  zify
  rw [Int.toNat_of_nonneg (Rat.num_nonneg.mpr hp), Int.toNat_of_nonneg (Rat.num_nonneg.mpr (hp.trans h))]
  exact (Rat.le_iff p q).mp h

theorem scaleFin_le_max (cuts : List Cut) (q : Rat) : scaleFin cuts q ≤ commandMax := by
  rcases le_or_gt q 0 with hz | hz
  · rw [scaleFin_of_nonpos cuts hz]
    exact Nat.zero_le _
  rcases le_or_gt 1 q with ho | ho
  · exact (scaleFin_of_one_le cuts ho).le
  · have hlt : q.num.toNat < q.den := by
      have hnum := Rat.num_lt_denom_iff.mpr ho
      have hden := q.den_pos
      omega
    rw [scaleFin_of_between cuts hz ho]
    exact scaleRound_le_max cuts hlt

theorem scaleFin_mono (cuts : List Cut) {p q : Rat} (h : p ≤ q) : scaleFin cuts p ≤ scaleFin cuts q := by
  rcases le_or_gt p 0 with hz | hz
  · rw [scaleFin_of_nonpos cuts hz]
    exact Nat.zero_le _
  rcases le_or_gt 1 q with ho | ho
  · rw [scaleFin_of_one_le cuts ho]
    exact scaleFin_le_max cuts p
  · have hcross := toNat_num_mul_den_le hz.le h
    rw [scaleFin_of_between cuts hz (h.trans_lt ho), scaleFin_of_between cuts (hz.trans_le h) ho]
    refine scaleRound_mono cuts p.den_pos q.den_pos ?_
    rw [Nat.mul_right_comm, Nat.mul_right_comm _ commandMax]
    exact Nat.mul_le_mul_right commandMax hcross

theorem exec_scaleToCommandMax_fin (q : Rat) (s : State) :
    exec (.scaleToCommandMax (.fin q)) s = .next { s with ret := .scaled (scaleFin s.cfg.scaleCuts q) } := by
  simp only [exec, execScaleToCommandMax, scaleReal_fin]
  rfl

/-! ### The laws of the codec (R114) -/

theorem exec_fromRaw_crc {c : Int} (h : 0 ≤ c ∧ c ≤ 2047) (t : Bool) (s : State) :
    ∃ (f : BitVec 16) (x : BitVec 12), exec (.fromRaw c t) s = .next { s with ret := .command f } ∧
      x.toNat = 2 * c.toNat + t.toNat ∧ commandCrc f = (if s.cfg.inv then 0xF#4 else 0#4) ^^^ foldNibbles x := by
  refine ⟨_, crcInput (BitVec.ofNat 11 c.toNat) t, fromRawValue_of_range h t s, ?_, ?_⟩
  · rw [crcInput_toNat, BitVec.toNat_ofNat]
    omega
  · rw [commandCrc_packCommand, crc4_eq]
    cases s.cfg.inv <;> simp [BitVec.xor_comm]

/-- The checksum taken again of a packed frame's own fields is the frame's. -/
theorem exec_crc_of_packCommand (s : State) (c : BitVec 11) (t : Bool) :
    exec (.crc (commandValue (packCommand s.cfg.inv c t)) (commandT (packCommand s.cfg.inv c t))) s =
      .next { s with ret := .u4 (commandCrc (packCommand s.cfg.inv c t)) } := by
  rw [commandValue_packCommand, commandT_packCommand, commandCrc_packCommand, exec_crc]

/-- Settles O22: each law is the lemma of its own part, for every state. -/
theorem codecLaws : Obligations.CodecLaws := by
  refine ⟨fun c t s hlo hhi => exec_fromRaw_crc ⟨hlo, hhi⟩ t s, fun p q s => ?_, fun i s u f hi h hf => ?_⟩
  · exact ⟨_, _, exec_scaleToCommandMax_fin p s, exec_scaleToCommandMax_fin q s, scaleFin_mono _, scaleFin_le_max _ p,
      scaleFin_of_nonpos _, scaleFin_of_one_le _⟩
  · obtain ⟨c, b, rfl⟩ := exec_constructor_packs hi h
    cases hf
    exact ⟨exec_getRaw _ _, exec_crc_of_packCommand _ c b⟩

end Sys2Proof.Machine
end

section
/-! One bit of a `send` (spec/42_pulsed_output.md section 2). A cycle of an undisturbed `send` is the encoder's part alone, up to
the timer's count, flag and inputs; what the encoder makes of a bit is then computed cycle by cycle, with no timer in it. -/

namespace Sys2Proof.Machine

open Sys2Proof

/-! ### The timer beside a `send` (R117; log 13) -/

theorem overTop_eq_false_iff {s : State} : s.overTop = false ↔ s.tcnt.toNat ≤ s.limit.toNat := by
  refine ⟨fun h => ?_, overTop_of_le_limit⟩
  cases hm : s.mode with
  | max =>
    rw [limit_max hm]
    exact Nat.le_of_lt_succ s.tcnt.isLt
  | short =>
    rw [overTop_short hm, decide_eq_false_iff_not] at h
    rw [limit_short hm]
    omega

theorem pending_of_masked {s : State} (h : s.ie = false ∨ s.gie = false) : s.pending = false := by
  rcases h with h | h <;> simp [State.pending, h]

/-- A timer that counts through k + 1 cycles undisturbed counts through k more after a tick. -/
theorem State.undisturbed.ticked {s : State} {k : Nat} (h : s.undisturbed (k + 1)) (hr : s.run = true) :
    s.ticked.undisturbed k := by
  obtain ⟨hp, hrun⟩ := h
  obtain ⟨htop, hirq⟩ := hrun hr
  have hle := overTop_eq_false_iff.mp htop
  have hirq' : (s.ie = false ∨ s.gie = false) ∨ s.tcnt.toNat + (k + 1) ≤ s.limit.toNat := or_assoc.mpr hirq
  rcases ticked_cases s with ⟨heq, hs⟩ | ⟨hne, hs⟩ <;> rw [hs]
  · have hmask : s.ie = false ∨ s.gie = false := hirq'.resolve_right (by rw [heq]; omega)
    exact ⟨pending_of_masked hmask, fun _ => ⟨overTop_of_le_limit (Nat.zero_le _), or_assoc.mp (.inl hmask)⟩⟩
  · have hlt : s.tcnt.toNat < s.limit.toNat := lt_of_le_of_ne hle (fun he => hne (BitVec.eq_of_toNat_eq he))
    have hcount : (s.tcnt + 1#8).toNat = s.tcnt.toNat + 1 := by rw [BitVec.toNat_add, BitVec.toNat_ofNat]; omega
    refine ⟨hp, fun _ => ⟨overTop_of_le_limit ?_, or_assoc.mp (hirq'.imp_right fun hk => ?_)⟩⟩
    · change (s.tcnt + 1#8).toNat ≤ s.limit.toNat
      omega
    · change (s.tcnt + 1#8).toNat + k ≤ s.limit.toNat
      omega

theorem State.undisturbed.of_succ {s : State} {k : Nat} (h : s.undisturbed (k + 1)) : s.undisturbed k :=
  ⟨h.1, fun hr => (h.2 hr).imp_right (Or.imp_right (Or.imp_right (by omega)))⟩

theorem State.undisturbed.cycleTicked {s : State} {k : Nat} (h : s.undisturbed (k + 1)) :
    s.cycleTicked.undisturbed k := by
  rcases cycleTicked_cases s with ⟨-, hs⟩ | ⟨-, -, hs⟩ | ⟨hr, -, hs⟩ <;> rw [hs]
  · exact h.of_succ
  · exact h.of_succ
  · exact h.ticked hr

theorem State.undisturbed.encoderCycle {s : State} {k : Nat} (h : s.undisturbed k) : s.encoderCycle.undisturbed k := by
  obtain ⟨_, _, _, _, _, hs⟩ := encoderCycle_fields s
  rw [hs]
  exact h

theorem txCycle_of_undisturbed {s : State} {k : Nat} (h : s.undisturbed (k + 1)) :
    s.txCycle = .next s.cycleTicked.encoderCycle :=
  txCycle_eq_next.mpr ⟨fun hd => (h.2 (tickDue_run hd)).1, h.cycleTicked.1, rfl⟩

/-! ### Equal up to the timer -/

/-- `u` is `s` but for the timer's count and flag and the inputs of its ticks, which the encoder does not read. -/
def State.UpToTimer (s u : State) : Prop :=
  ∃ v f l n, u = { s with tcnt := v, flag := f, ticksIn := l, freeCount := n }

theorem State.UpToTimer.refl (s : State) : s.UpToTimer s := ⟨s.tcnt, s.flag, s.ticksIn, s.freeCount, rfl⟩

theorem State.UpToTimer.trans {s u w : State} (h : s.UpToTimer u) (h' : u.UpToTimer w) : s.UpToTimer w := by
  obtain ⟨_, _, _, _, rfl⟩ := h
  obtain ⟨_, _, _, _, rfl⟩ := h'
  exact ⟨_, _, _, _, rfl⟩

theorem State.UpToTimer.cycleTicked (s : State) : s.UpToTimer s.cycleTicked := cycleTicked_fields s

theorem State.UpToTimer.encoderCycle {s u : State} (h : s.UpToTimer u) : s.encoderCycle.UpToTimer u.encoderCycle := by
  obtain ⟨v, f, l, n, rfl⟩ := h
  exact ⟨v, f, l, n, encoderCycle_timer s v f l n⟩

/-- What the line and the host see of the encoder is the same in two such states. -/
theorem State.UpToTimer.observed {s u : State} (h : s.UpToTimer u) :
    u.pinRead = s.pinRead ∧ u.txi = s.txi ∧ u.txBusy = s.txBusy := by
  obtain ⟨_, _, _, _, rfl⟩ := h
  exact ⟨rfl, rfl, rfl⟩

/-! ### Cycles of a `send` -/

/-- Nothing but the encoder acts in the next `k` cycles: no reset, no fault, no interrupt, and a phase in which a `send` can be
in progress. -/
structure State.Transmits (s : State) (k : Nat) : Prop where
  quiet : s.quiet
  undisturbed : s.undisturbed k
  phase : s.phase.isHosts = true ∨ s.phase = .sending

theorem ownStep_of_txBusy {s : State} (hb : s.txBusy = true) (hp : s.phase.isHosts = true ∨ s.phase = .sending) :
    s.ownStep = some .txStep := by
  rcases hp with hp | hp
  · rcases isHosts_iff.mp hp with hp | hp <;> simp [State.ownStep, hp, hb]
  · simp [State.ownStep, hp, hb]

theorem State.Transmits.step_eq {s : State} {k : Nat} (h : s.Transmits (k + 1)) (hb : s.txBusy = true) :
    step s = .next s.cycleTicked.encoderCycle := by
  have hturn : s.hostTurn = false := by simp [State.hostTurn, hb]
  calc step s = advance s := step_of_quiet h.quiet
    _ = exec .txStep s := advance_of_own h.quiet.2 hturn (ownStep_of_txBusy hb h.phase)
    _ = onlyIf s.txBusy s.txCycle := rfl
    _ = .next s.cycleTicked.encoderCycle := by rw [hb, onlyIf_true, txCycle_of_undisturbed h.undisturbed]

theorem State.Transmits.nextCycle {s : State} {k : Nat} (h : s.Transmits (k + 1)) :
    s.cycleTicked.encoderCycle.Transmits k := by
  have hu : s.cycleTicked.encoderCycle.undisturbed k := h.undisturbed.cycleTicked.encoderCycle
  obtain ⟨_, _, _, _, hs⟩ := cycleTicked_fields s
  obtain ⟨_, _, _, _, _, he⟩ := encoderCycle_fields s.cycleTicked
  have hq : s.cycleTicked.encoderCycle.quiet := by rw [he, hs]; exact h.quiet
  have hp : s.cycleTicked.encoderCycle.phase = s.phase := by rw [he, hs]
  exact ⟨hq, hu, hp ▸ h.phase⟩

/-- While a `send` is in progress, a run of `j` cycles is the encoder's part `j` times, up to the timer. -/
theorem State.Transmits.runsTo_iterate {s : State} {j k : Nat} (h : s.Transmits (j + k))
    (hb : ∀ i < j, (State.encoderCycle^[i] s).txBusy = true) :
    ∃ u, RunsTo j s u ∧ (State.encoderCycle^[j] s).UpToTimer u ∧ u.Transmits k := by
  induction j generalizing k with
  | zero => exact ⟨s, runsTo_zero.mpr rfl, .refl s, Nat.zero_add k ▸ h⟩
  | succ j ih =>
    rw [Nat.add_right_comm, Nat.add_assoc] at h
    obtain ⟨u, hrun, hsame, hu⟩ := ih h fun i hi => hb i (Nat.lt_succ_of_lt hi)
    obtain ⟨-, -, hbusy⟩ := hsame.observed
    refine ⟨_, runsTo_trans hrun (runsTo_one (hu.step_eq (hbusy.trans (hb j j.lt_succ_self)))), ?_, hu.nextCycle⟩
    rw [Function.iterate_succ_apply']
    exact (hsame.trans (.cycleTicked u)).encoderCycle

/-! ### The encoder within a bit (R119, R121) -/

/-- The first cycle of a bit, of which every window has a cycle. -/
structure State.BitStart (s : State) : Prop where
  windows : 1 ≤ s.cfg.txA ∧ 1 ≤ s.cfg.txB ∧ 1 ≤ s.cfg.txC
  txph : s.txph = .winA
  txcnt : s.txcnt = s.cfg.txA
  out : s.out = true

/-- Cycle `j` of the bit that begins in `s`: its window, the cycles left of it, and the level of the window. -/
def State.inBit (s : State) (j : Nat) : State :=
  if j < s.cfg.txA then { s with txcnt := s.cfg.txA - j }
  else if j < s.cfg.txA + s.cfg.txB then { s with out := s.txBit, txph := .winB, txcnt := s.cfg.txA + s.cfg.txB - j }
  else { s with out := false, txph := .winC, txcnt := bitCycles s.cfg - j }

theorem inBit_winA {s : State} {j : Nat} (h : j < s.cfg.txA) : s.inBit j = { s with txcnt := s.cfg.txA - j } := if_pos h

theorem inBit_winB {s : State} {j : Nat} (ha : s.cfg.txA ≤ j) (hb : j < s.cfg.txA + s.cfg.txB) :
    s.inBit j = { s with out := s.txBit, txph := .winB, txcnt := s.cfg.txA + s.cfg.txB - j } := by
  rw [State.inBit, if_neg (by omega), if_pos hb]

theorem inBit_winC {s : State} {j : Nat} (h : s.cfg.txA + s.cfg.txB ≤ j) :
    s.inBit j = { s with out := false, txph := .winC, txcnt := bitCycles s.cfg - j } := by
  rw [State.inBit, if_neg (by omega), if_neg (by omega)]

theorem inBit_txBusy (s : State) (j : Nat) : (s.inBit j).txBusy = s.txBusy := by
  unfold State.inBit
  split_ifs <;> rfl

theorem State.BitStart.inBit_zero {s : State} (h : s.BitStart) : s.inBit 0 = s := by
  rw [inBit_winA h.windows.1, Nat.sub_zero, ← h.txcnt]

/-- Within a bit the encoder counts the window down, or opens the next one. -/
theorem State.BitStart.encoderCycle_inBit {s : State} (h : s.BitStart) {j : Nat} (hj : j + 1 < bitCycles s.cfg) :
    (s.inBit j).encoderCycle = s.inBit (j + 1) := by
  obtain ⟨hA, hB, hC⟩ := h.windows
  rcases lt_trichotomy (j + 1) s.cfg.txA with ha | ha | ha
  · rw [inBit_winA (by omega), inBit_winA ha, encoderCycle_count (by change 1 < s.cfg.txA - j; omega)]
    simp only [Nat.sub_sub]
  · rw [inBit_winA (by omega), inBit_winB (by omega) (by omega),
      encoderCycle_winA (by change s.cfg.txA - j ≤ 1; omega) (by exact h.txph)]
    have hout : (s.out && s.txBit) = s.txBit := by rw [h.out, Bool.true_and]
    have hcnt : s.cfg.txB = s.cfg.txA + s.cfg.txB - (j + 1) := by omega
    rw [← hcnt, ← hout]
    rfl
  rcases lt_trichotomy (j + 1) (s.cfg.txA + s.cfg.txB) with hb | hb | hb
  · rw [inBit_winB (by omega) (by omega), inBit_winB (by omega) hb,
      encoderCycle_count (by change 1 < s.cfg.txA + s.cfg.txB - j; omega)]
    simp only [Nat.sub_sub]
  · rw [inBit_winB (by omega) (by omega), inBit_winC (by omega),
      encoderCycle_winB (by change s.cfg.txA + s.cfg.txB - j ≤ 1; omega) rfl]
    have hcnt : s.cfg.txC = bitCycles s.cfg - (j + 1) := by rw [bitCycles]; omega
    rw [← hcnt]
  · rw [inBit_winC (by omega), inBit_winC (by omega), encoderCycle_count (by change 1 < bitCycles s.cfg - j; omega)]
    simp only [Nat.sub_sub]

theorem State.BitStart.iterate_eq_inBit {s : State} (h : s.BitStart) {j : Nat} (hj : j < bitCycles s.cfg) :
    State.encoderCycle^[j] s = s.inBit j := by
  induction j with
  | zero => exact h.inBit_zero.symm
  | succ j ih => rw [Function.iterate_succ_apply', ih (by omega), h.encoderCycle_inBit hj]

/-- The level of the line in cycle `j` of a bit (R119). -/
theorem State.BitStart.pinRead_inBit {s : State} (h : s.BitStart) (hd : s.dir = .output) (j : Nat) :
    (s.inBit j).pinRead = decide (j < s.cfg.txA + if s.txBit then s.cfg.txB else 0) := by
  rcases lt_or_ge j s.cfg.txA with ha | ha
  · rw [inBit_winA ha, decide_eq_true (by omega)]
    simp [State.pinRead, hd, h.out]
  rcases lt_or_ge j (s.cfg.txA + s.cfg.txB) with hb | hb
  · rw [inBit_winB ha hb]
    cases hbit : s.txBit <;> simp [State.pinRead, hd, ha, hb]
  · rw [inBit_winC hb, decide_eq_false (by split <;> omega)]
    simp [State.pinRead, hd]

/-- After its last cycle a bit is followed by the next one, or the `send` is over with the line left low. -/
theorem State.BitStart.iterate_bitCycles {s : State} (h : s.BitStart) :
    State.encoderCycle^[bitCycles s.cfg] s =
      if s.txi + 1 = s.txBits then
        { s with txi := s.txi + 1, txBusy := false, out := false, txph := .winC, txcnt := 1 }
      else { s with txi := s.txi + 1 } := by
  obtain ⟨hA, hB, hC⟩ := h.windows
  have hcycles : bitCycles s.cfg = s.cfg.txA + s.cfg.txB + (s.cfg.txC - 1) + 1 := by rw [bitCycles]; omega
  have hcnt : bitCycles s.cfg - (s.cfg.txA + s.cfg.txB + (s.cfg.txC - 1)) = 1 := by omega
  have hlast : State.encoderCycle^[bitCycles s.cfg] s =
      ({ s with out := false, txph := .winC, txcnt := 1 } : State).encoderCycle := by
    rw [hcycles, Function.iterate_succ_apply', h.iterate_eq_inBit (by omega), inBit_winC (by omega), hcnt]
  rw [hlast]
  split_ifs with hend
  · exact encoderCycle_last le_rfl rfl hend
  · rw [encoderCycle_next le_rfl rfl (by exact hend), ← h.out, ← h.txph, ← h.txcnt]

/-- So the next cycle is high exactly when the `send` goes on (R119, R123). -/
theorem State.BitStart.observed_bitCycles {s : State} (h : s.BitStart) (hd : s.dir = .output) (hb : s.txBusy = true)
    (hi : s.txi < s.txBits) :
    (State.encoderCycle^[bitCycles s.cfg] s).pinRead = decide (s.txi + 1 < s.txBits) ∧
      (State.encoderCycle^[bitCycles s.cfg] s).txi = s.txi + 1 ∧
      (State.encoderCycle^[bitCycles s.cfg] s).txBusy = decide (s.txi + 1 < s.txBits) := by
  rw [h.iterate_bitCycles]
  split
  · rw [decide_eq_false (by omega)]
    exact ⟨by simp [State.pinRead, hd], rfl, rfl⟩
  · rw [decide_eq_true (by omega)]
    exact ⟨by simp [State.pinRead, hd, h.out], rfl, hb⟩

/-- Settles O28: each cycle of the bit is a run of the encoder alone, whose window gives the level. -/
theorem oneBitIsOnePulse : Obligations.OneBitIsOnePulse := by
  intro s hcfg hq hu hd hb hph hcnt hout hi hp
  obtain ⟨⟨hA, hB, hC, -⟩, -⟩ := hcfg
  have hstart : s.BitStart := ⟨⟨hA, hB, hC⟩, hph, hcnt, hout⟩
  have hrun : ∀ j ≤ bitCycles s.cfg, ∃ u, RunsTo j s u ∧ (State.encoderCycle^[j] s).UpToTimer u := by
    intro j hj
    have htx : s.Transmits (j + (bitCycles s.cfg - j)) := ⟨hq, (Nat.add_sub_cancel' hj).symm ▸ hu, hp⟩
    obtain ⟨u, hr, hsame, -⟩ := htx.runsTo_iterate fun i hij => by
      rw [hstart.iterate_eq_inBit (hij.trans_le hj), inBit_txBusy, hb]
    exact ⟨u, hr, hsame⟩
  constructor
  · intro j hj
    obtain ⟨u, hr, hsame⟩ := hrun j (Nat.le_of_lt hj)
    obtain ⟨hpin, -, -⟩ := hsame.observed
    exact ⟨u, hr, by rw [hpin, hstart.iterate_eq_inBit hj, hstart.pinRead_inBit hd]⟩
  · obtain ⟨u, hr, hsame⟩ := hrun (bitCycles s.cfg) le_rfl
    obtain ⟨hpin, htxi, hbusy⟩ := hsame.observed
    obtain ⟨hpin', htxi', hbusy'⟩ := hstart.observed_bitCycles hd hb hi
    exact ⟨u, hr, htxi.trans htxi', hpin.trans hpin', hbusy.trans hbusy'⟩

end Sys2Proof.Machine
end

section
/-! The receiver's tick rules one by one, and the transitions of PHASE (spec/43_receiver.md sections 2 to 4). What a rule writes
is read beside the level its step spends. PHASE moves as the rule that the sequencer selects says, or as the call of the host's
turn says: the interrupt a call may raise moves it nowhere, since JT is None in Idle and a completion leaves Done at Done. -/

namespace Sys2Proof.Machine

open Sys2Proof

/-! ### The guards of the tick rules -/

theorem onlyIf_of_guard {b : Bool} (h : b = true) (r : Result) : onlyIf b r = r := if_pos h

theorem waitsHigh_iff {s : State} : s.waitsHigh = true ↔ s.phase = .waitingForFirstEdge ∧ s.pinRead = true := by
  simp [State.waitsHigh]

theorem holdsLevel_iff {s : State} : s.holdsLevel = true ↔ s.phase = .sampling ∧ s.pinRead = s.prev := by
  simp [State.holdsLevel]

theorem seesEdge_iff {s : State} : s.seesEdge = true ↔ s.phase = .sampling ∧ s.pinRead ≠ s.prev := by
  simp [State.seesEdge]

/-! ### The level a step spends -/

/-- The level a step spends, as what the line's two fields become: beside it every other write of a rule can be read. -/
theorem nextLevel_eq (s : State) :
    s.nextLevel =
      { s with
        lineIn := if s.dir = .input then s.lineIn.tail else s.lineIn
        lineCount := if s.dir = .input then s.lineCount + 1 else s.lineCount } := by
  have hdir : s.dir = .input ∨ s.dir = .output := by cases s.dir <;> simp
  rcases hdir with h | h
  · rw [nextLevel_in h, if_pos h, if_pos h]
  · rw [nextLevel_out h, if_neg (by simp [h]), if_neg (by simp [h])]

/-! ### Single tick rules -/

/-- Settles O31: the guards of the two rules hold, and the level is spent beside the counts they write. -/
theorem waitingCountsTheTimer : Obligations.WaitingCountsTheTimer := by
  intro s hphase hpin
  have hwait : s.waitsHigh = true := waitsHigh_iff.mpr ⟨hphase, hpin⟩
  constructor
  · intro hne
    refine (onlyIf_of_guard (by simp [hwait, hne]) _).trans ?_
    rw [nextLevel_eq, nextLevel_eq s]
    rfl
  · intro heq hbudget
    refine (onlyIf_of_guard (by simp [hwait, heq, hbudget]) _).trans ?_
    rw [nextLevel_eq, nextLevel_eq s]

/-- Settles O34: the free value of TCNT is the one the tick draws. -/
theorem countAndEdgeSteps : Obligations.CountAndEdgeSteps := by
  intro s hphase
  constructor
  · intro hpin hnext
    have hhold : s.holdsLevel = true := holdsLevel_iff.mpr ⟨hphase, hpin⟩
    refine ⟨s.loosenTcnt.tcnt, (onlyIf_of_guard (by simp [hhold, hnext]) _).trans ?_⟩
    rw [nextLevel_eq, nextLevel_eq s]
    rfl
  · intro hpin hnext
    have hedge : s.seesEdge = true := seesEdge_iff.mpr ⟨hphase, hpin⟩
    refine ⟨s.loosenTcnt.tcnt, (onlyIf_of_guard (by simp [hedge, hnext]) _).trans ?_⟩
    rw [nextLevel_eq, nextLevel_eq s]
    rfl

/-! ### The sampler and PHASE -/

theorem sampled_phase (s : State) (l : Level) :
    (s.sampled l).phase = if s.acc.getLsbD 23 = true then .done else s.phase := by
  rcases sampled_cases s l with ⟨hc, h⟩ | ⟨hc, h⟩ <;> rw [h, ← shiftCarry, hc] <;> rfl

theorem sampled_timingFault (s : State) (l : Level) : (s.sampled l).timingFault = s.timingFault := by
  obtain ⟨_, _, _, _, _, _, _, _, _, _, h⟩ := sampled_fields s l
  rw [h]

/-- A sample that goes on ends the receive exactly when the marker leaves ACC (R135, R136). -/
theorem exec_rxSample_phase {s t : State} (h : exec .rxSample s = .next t) :
    t.phase = (if s.acc.getLsbD 23 = true then .done else s.phase) ∧ t.timingFault = s.timingFault := by
  obtain ⟨-, h⟩ := onlyIf_eq_next.mp h
  split at h
  · obtain ⟨-, rfl⟩ := takeInterrupt_eq_next.mp h
    rw [State.nextLevel_phase, State.nextLevel_timingFault, sampled_phase, sampled_timingFault]
    exact ⟨rfl, rfl⟩
  · cases h

/-! ### PHASE outside the host's turn -/

theorem onlyIf_next {b : Bool} {u t : State} (h : onlyIf b (.next u) = .next t) : t = u :=
  (Host.Outcome.next.inj (onlyIf_eq_next.mp h).2).symm

theorem exec_txStep_phase {s t : State} (h : exec .txStep s = .next t) : t.phase = s.phase := by
  obtain ⟨_, _, _, _, _, _, _, _, _, rfl⟩ := txCycle_fields (onlyIf_eq_next.mp h).2
  rfl

/-- An advance outside the host's turn that goes on is the selected rule's. -/
theorem advance_own_cases {s t : State} (h : advance s = .next t) (hturn : s.hostTurn = false) :
    s.timingFault = false ∧ ∃ i, s.ownStep = some i ∧ exec i s = .next t := by
  obtain ⟨hf, ⟨ht, -⟩ | ⟨-, hi⟩⟩ := advance_cases h
  · exact absurd ht (by simp [hturn])
  · exact ⟨hf, hi⟩

theorem hostTurn_of_blocks {s : State} (h : s.phase.isHosts = false) : s.hostTurn = false := by simp [State.hostTurn, h]

/-- The rules of the waiting receiver, by the line, the count and the budget (R126, R129 to R132). -/
theorem ownStep_waiting_cases {s : State} {i : Instr} (hp : s.phase = .waitingForFirstEdge) (h : s.ownStep = some i) :
    (s.pinRead = false ∧ i = .rxFirstEdge) ∨
    (s.pinRead = true ∧ s.tcnt ≠ 255#8 ∧ i = .rxWait) ∨
    (s.pinRead = true ∧ s.tcnt = 255#8 ∧ 1 < s.budget ∧ i = .rxOvf) ∨
    (s.pinRead = true ∧ s.tcnt = 255#8 ∧ s.budget = 1 ∧ i = .rxTimeout) := by
  simp only [State.ownStep, hp] at h
  split_ifs at h with hpin hcnt hbudget hlast <;> cases h
  · exact .inl ⟨by simpa using hpin, rfl⟩
  · exact .inr (.inl ⟨by simpa using hpin, hcnt, rfl⟩)
  · exact .inr (.inr (.inl ⟨by simpa using hpin, not_not.mp hcnt, hbudget, rfl⟩))
  · exact .inr (.inr (.inr ⟨by simpa using hpin, not_not.mp hcnt, hlast, rfl⟩))

/-- The rules of the sampling receiver, by the line and NEXT (R126, R133 to R137). -/
theorem ownStep_sampling_cases {s : State} {i : Instr} (hp : s.phase = .sampling) (h : s.ownStep = some i) :
    (s.pinRead = s.prev ∧ 1 < s.next ∧ i = .rxCount) ∨
    (s.pinRead = s.prev ∧ s.next = 1 ∧ i = .rxSample) ∨
    (s.pinRead ≠ s.prev ∧ s.next = 1 ∧ i = .rxCollide) ∨
    (s.pinRead ≠ s.prev ∧ s.next ≠ 1 ∧ i = .rxEdge) := by
  simp only [State.ownStep, hp] at h
  split_ifs at h with hpin hcount hnext hnext <;> cases h
  · exact .inl ⟨hpin, hcount, rfl⟩
  · exact .inr (.inl ⟨hpin, hnext, rfl⟩)
  · exact .inr (.inr (.inl ⟨hpin, hnext, rfl⟩))
  · exact .inr (.inr (.inr ⟨hpin, hnext, rfl⟩))

/-- The frame's cycles keep PHASE; after the last one the receiver is armed. -/
theorem advance_sending_phase {s t : State} (h : advance s = .next t) (hp : s.phase = .sending) :
    t.phase = if s.txBusy then .sending else .waitingForFirstEdge := by
  obtain ⟨-, i, hi, hexec⟩ := advance_own_cases h (hostTurn_of_blocks (by rw [hp]; rfl))
  simp only [State.ownStep, hp] at hi
  split_ifs at hi ⊢ <;> cases hi
  · rw [exec_txStep_phase hexec, hp]
  · rcases exec_getResponse_cases hexec with ⟨-, -, rfl⟩ | ⟨-, -, -, -, rfl⟩
    · rfl
    · rfl

theorem advance_waiting_phase {s t : State} (h : advance s = .next t) (hp : s.phase = .waitingForFirstEdge) :
    t.phase = if s.pinRead = false then .sampling
      else if s.tcnt = 255#8 ∧ s.budget = 1 then .done else .waitingForFirstEdge := by
  obtain ⟨-, i, hi, hexec⟩ := advance_own_cases h (hostTurn_of_blocks (by rw [hp]; rfl))
  rcases ownStep_waiting_cases hp hi with
    ⟨hpin, rfl⟩ | ⟨hpin, hcnt, rfl⟩ | ⟨hpin, hcnt, hbudget, rfl⟩ | ⟨hpin, hcnt, hbudget, rfl⟩
  · rw [onlyIf_next hexec, if_pos hpin]
  · rw [onlyIf_next hexec]
    simp [hpin, hcnt, hp]
  · rw [onlyIf_next hexec]
    simp [hpin, hcnt, hp, Nat.ne_of_gt hbudget]
  · rw [onlyIf_next hexec]
    simp [hpin, hcnt, hbudget, State.raiseError]

/-- Sampling ends with the sample that completes; the collision alone sets TIMING_FAULT. -/
theorem advance_sampling_phase {s t : State} (h : advance s = .next t) (hp : s.phase = .sampling) :
    (t.phase = if s.pinRead = s.prev ∧ s.next = 1 ∧ s.acc.getLsbD 23 = true then .done else .sampling) ∧
      (t.timingFault = true ↔ s.pinRead ≠ s.prev ∧ s.next = 1) := by
  obtain ⟨hf, i, hi, hexec⟩ := advance_own_cases h (hostTurn_of_blocks (by rw [hp]; rfl))
  rcases ownStep_sampling_cases hp hi with
    ⟨hpin, hnext, rfl⟩ | ⟨hpin, hnext, rfl⟩ | ⟨hpin, hnext, rfl⟩ | ⟨hpin, hnext, rfl⟩
  · rw [onlyIf_next hexec]
    simp [hpin, hp, hf, Nat.ne_of_gt hnext]
  · obtain ⟨hphase, hfault⟩ := exec_rxSample_phase hexec
    rw [hphase, hfault]
    simp [hpin, hnext, hp, hf]
  · rw [onlyIf_next hexec]
    simp [hpin, hnext, hp]
  · rw [onlyIf_next hexec]
    simp [hpin, hnext, hp, hf]

/-! ### PHASE in the host's turn -/

/-- A call keeps PHASE and JT, but for the three rows of R126 that start from Idle or Done. -/
theorem exec_call_cases {i : Instr} {s t : State} (h : exec i s = .next t) (hi : i.isStep = false) :
    (i = .init ∨ (∃ c, i = .sendCommand c) ∨ i = .getResponse) ∨ (t.phase = s.phase ∧ t.jt = s.jt) := by
  rcases exec_mayWrite_or_returns h with hw | ⟨v, rfl⟩
  swap
  · exact .inr ⟨rfl, rfl⟩
  cases i with
  | init => exact .inl (.inl rfl)
  | sendCommand c => exact .inl (.inr (.inl ⟨c, rfl⟩))
  | getResponse => exact .inl (.inr (.inr rfl))
  | setCounter | setMaxTimeout | setShortTimeout | start | stop | clearFlag | enableInterrupt | disableInterrupt =>
    obtain ⟨-, rfl⟩ := hostWrite_eq_next.mp h
    exact .inr ⟨rfl, rfl⟩
  | send bytes n =>
    obtain ⟨-, -, -, rfl⟩ := exec_send_eq_next.mp h
    obtain ⟨_, _, _, _, hl⟩ := launched_fields (s.returning .unit) (.buffer bytes n)
    rw [hl]
    exact .inr ⟨rfl, rfl⟩
  | tickMax | tickShort | txStep | rxWait | rxOvf | rxTimeout | rxFirstEdge | rxCount | rxEdge | rxSample | rxComplete
  | rxCollide | irqEntry => cases hi
  | _ => cases hw

/-- The interrupt of the host's turn keeps PHASE: in Idle it has no target (U21), and a completion leaves Done at Done. -/
theorem takeInterrupt_phase {s t : State} (h : takeInterrupt s = .next t) (hh : s.phase.isHosts = true)
    (hidle : s.phase = .idle → s.jt = .none) : t.phase = s.phase := by
  obtain ⟨hjt, rfl⟩ := takeInterrupt_eq_next.mp h
  rcases isHosts_iff.mp hh with hp | hp
  · exact absurd (hidle hp) (by simp [hjt])
  · rw [State.nextLevel_phase, sampled_phase, State.setFlag_phase, hp, ite_self]

theorem serviced_phase {s t : State} (h : serviced s = .next t) (hidle : s.phase = .idle → s.jt = .none) :
    t.phase = s.phase := by
  rcases serviced_cases h with ⟨-, rfl⟩ | ⟨hturn, -, hjt, ht⟩
  · rfl
  · exact takeInterrupt_phase (takeInterrupt_eq_next.mpr ⟨hjt, ht⟩) (hostTurn_iff.mp hturn).1 hidle

theorem tickAlong_phase_jt {i : Instr} {s t u : State} (h : tickAlong i s t = .next u) :
    u.phase = t.phase ∧ u.jt = t.jt := by
  rcases tickAlong_cases h with rfl | ⟨-, -, -, -, rfl⟩
  · exact ⟨rfl, rfl⟩
  · exact ⟨rfl, rfl⟩

/-- The step of a call leaves PHASE where the call itself does. -/
theorem callStep_phase {i : Instr} {s u : State} (h : callStep i s = .next u) :
    ∃ t, exec i s = .next t ∧ ((t.phase = .idle → t.jt = .none) → u.phase = t.phase) := by
  obtain ⟨t, t', hexec, htick, hserv⟩ := callStep_cases h
  obtain ⟨hphase, hjt⟩ := tickAlong_phase_jt htick
  refine ⟨t, hexec, fun hidle => ?_⟩
  rw [← hphase, ← hjt] at hidle
  exact (serviced_phase hserv hidle).trans hphase

theorem callStep_init_phase {s t : State} (h : callStep .init s = .next t) : t.phase = .idle := by
  obtain ⟨u, hexec, hphase⟩ := callStep_phase h
  obtain ⟨-, rfl⟩ := hostWrite_eq_next.mp hexec
  exact hphase fun _ => rfl

theorem callStep_sendCommand_phase {c : BitVec 16} {s t : State} (h : callStep (.sendCommand c) s = .next t) :
    t.phase = .sending := by
  obtain ⟨u, hexec, hphase⟩ := callStep_phase h
  obtain ⟨-, -, -, -, hu⟩ := exec_sendCommand_eq_next.mp hexec
  obtain ⟨_, _, _, _, hl⟩ := launched_fields _ .frame
  have hsending : u.phase = .sending := by rw [hu, hl]
  exact (hphase fun hidle => absurd (hidle.symm.trans hsending) (by decide)).trans hsending

theorem callStep_getResponse_phase {s t : State} (h : callStep .getResponse s = .next t) :
    t.phase = .waitingForFirstEdge := by
  obtain ⟨u, hexec, hphase⟩ := callStep_phase h
  have hwaiting : u.phase = .waitingForFirstEdge := by
    rcases exec_getResponse_cases hexec with ⟨-, -, rfl⟩ | ⟨-, -, -, -, rfl⟩
    · rfl
    · rfl
  exact (hphase fun hidle => absurd (hidle.symm.trans hwaiting) (by decide)).trans hwaiting

/-- A decoded call record is the step's call. -/
theorem hostStep_of_decoded {s : State} {b : List Byte} {rest : List (List Byte)} {i : Instr} {r : List Byte}
    (hp : s.pending = false) (hc : s.calls = b :: rest) (hd : decode b = .ok (i, r)) (hi : i.isStep = false) :
    hostStep s = callStep i { s with calls := rest } := by
  cases b with
  | nil => cases hd
  | cons op bs => exact hostStep_of_call hp hc hd hi

/-- The step's call moves PHASE, or nothing does. -/
theorem hostStep_phase {s t : State} (h : hostStep s = .next t) (hturn : s.hostTurn = true)
    (hidle : s.phase = .idle → s.jt = .none) :
    t.phase = s.phase ∨ ∃ b rest i r, s.pending = false ∧ s.calls = b :: rest ∧ decode b = .ok (i, r) ∧
      (i = .init ∨ (∃ c, i = .sendCommand c) ∨ i = .getResponse) := by
  rcases hostStep_cases h with ⟨-, u, hexec, htick⟩ | ⟨-, rest, h⟩ | ⟨hp, b, bs, rest, i, r, hc, hd, hi, h⟩
  · have hirq : takeInterrupt s = .next u := (onlyIf_eq_next.mp hexec).2
    exact .inl ((tickAlong_phase_jt htick).1.trans (takeInterrupt_phase hirq (hostTurn_iff.mp hturn).1 hidle))
  · rcases idleStep_cases h with ⟨-, rfl⟩ | ⟨-, -, hserv⟩
    · exact .inl rfl
    · exact .inl (serviced_phase (s := ({ s with calls := rest } : State).ticked) hserv hidle)
  · obtain ⟨u, hexec, hphase⟩ := callStep_phase h
    rcases exec_call_cases hexec hi with hrow | ⟨hu, hjt⟩
    · exact .inr ⟨b :: bs, rest, i, r, hp, hc, hd, hrow⟩
    · exact .inl ((hphase (by rw [hu, hjt]; exact hidle)).trans hu)

/-- The rows of R126 that start from Idle or Done. -/
theorem advance_host_phase {s t : State} (h : advance s = .next t) (hh : s.phase = .idle ∨ s.phase = .done)
    (hidle : s.phase = .idle → s.jt = .none) :
    (∀ b rest r, s.hostTurn = true → s.pending = false → s.calls = b :: rest →
      (decode b = .ok (.init, r) → t.phase = .idle) ∧
      (∀ c, decode b = .ok (.sendCommand c, r) → t.phase = .sending) ∧
      (decode b = .ok (.getResponse, r) → t.phase = .waitingForFirstEdge)) ∧
    (t.phase = s.phase ∨
      ∃ b rest i r, s.hostTurn = true ∧ s.pending = false ∧ s.calls = b :: rest ∧ decode b = .ok (i, r) ∧
        (i = .init ∨ (∃ c, i = .sendCommand c) ∨ i = .getResponse)) := by
  obtain ⟨-, ⟨hturn, h⟩ | ⟨hturn, i, hi, hexec⟩⟩ := advance_cases h
  · constructor
    · intro b rest r _ hp hc
      exact ⟨fun hd => callStep_init_phase (hostStep_of_decoded hp hc hd rfl ▸ h),
        fun c hd => callStep_sendCommand_phase (hostStep_of_decoded hp hc hd rfl ▸ h),
        fun hd => callStep_getResponse_phase (hostStep_of_decoded hp hc hd rfl ▸ h)⟩
    · exact (hostStep_phase h hturn hidle).imp_right fun ⟨b, rest, i, r, hrow⟩ => ⟨b, rest, i, r, hturn, hrow⟩
  · have hbusy : s.txBusy = true := by
      simpa [State.hostTurn, isHosts_iff.mpr hh] using hturn
    rw [ownStep_of_txBusy hbusy (.inl (isHosts_iff.mpr hh))] at hi
    cases hi
    exact ⟨fun _ _ _ ht => absurd ht (by simp [hturn]), .inl (exec_txStep_phase hexec)⟩

/-- Settles O40: a step without a reset is an advance, read phase by phase; of the invariant it needs JT = None in Idle. -/
theorem phaseTransitionsAreThoseOfTheTable : Obligations.PhaseTransitionsAreThoseOfTheTable := by
  intro s t hinv hreset hstep
  obtain ⟨r, hr⟩ : ∃ r, step s = advance { s with resets := r } := (step_cases s).resolve_left fun h => hreset h.1
  have hadv : advance { s with resets := r } = .next t := hr ▸ hstep
  exact ⟨fun hh => advance_host_phase (s := { s with resets := r }) hadv hh hinv.idle,
    fun hp => advance_sending_phase (s := { s with resets := r }) hadv hp,
    fun hp => advance_waiting_phase (s := { s with resets := r }) hadv hp,
    fun hp => advance_sampling_phase (s := { s with resets := r }) hadv hp⟩

end Sys2Proof.Machine
end

section
/-! The first two steps of the decoder (spec/44_decoder.md R145, R146): the un-shift in its three forms, and the split into four
symbols. -/

namespace Sys2Proof.Machine

open Sys2Proof

/-! ### The un-shift (R145) -/

theorem exec_unshift (v : BitVec 24) (s : State) : exec (.unshift v) s = .next { s with ret := .u24 (unshift24 v) } := rfl

/-- Bit by bit; above bit 23 there is a 0. -/
theorem unshift24_getLsbD (v : BitVec 24) (i : Nat) :
    (unshift24 v).getLsbD i = (v.getLsbD i != v.getLsbD (i + 1)) := by
  rw [unshift24, BitVec.getLsbD_xor, BitVec.getLsbD_ushiftRight, Nat.add_comm 1 i, Bool.bne_eq_xor]

theorem unshift24_getLsbD_top (v : BitVec 24) : (unshift24 v).getLsbD 23 = v.getLsbD 23 := by
  rw [unshift24_getLsbD, BitVec.getLsbD_of_ge v (23 + 1) (Nat.le_refl 24), Bool.bne_false]

/-- The byte `b` shifted right by one, with the lowest bit of the byte `carry` above it entering at the top. -/
def shiftIn (carry b : Byte) : Byte := (b >>> 1) ||| ((carry &&& 1#8) <<< 7)

theorem shiftIn_getLsbD (carry b : Byte) {i : Nat} (hi : i < 8) :
    (shiftIn carry b).getLsbD i = if i = 7 then carry.getLsbD 0 else b.getLsbD (i + 1) := by
  rw [shiftIn, BitVec.getLsbD_or, BitVec.getLsbD_ushiftRight, BitVec.getLsbD_shiftLeft, BitVec.getLsbD_and,
    Nat.add_comm 1 i]
  split
  case isTrue htop => subst htop; simp [-BitVec.getLsbD_eq_getElem]
  case isFalse hlow => simp [show i < 7 by omega]

/-- A shift of a word by one is a shift of each part: the last byte takes in the lowest bit of the part above it. -/
theorem append_byte_ushiftRight_one {w : Nat} (x : BitVec w) (carry b : Byte) (hcarry : carry.getLsbD 0 = x.getLsbD 0) :
    (x ++ b) >>> 1 = (x >>> 1) ++ shiftIn carry b := by
  apply BitVec.eq_of_getLsbD_eq
  intro i _
  rw [BitVec.getLsbD_ushiftRight, BitVec.getLsbD_append, BitVec.getLsbD_append, Nat.add_comm 1 i]
  rcases Nat.lt_trichotomy i 7 with hlow | rfl | hhigh
  · rw [if_pos (by omega), if_pos (by omega), shiftIn_getLsbD carry b (by omega), if_neg (by omega)]
  · rw [if_neg (by decide), if_pos (by decide), shiftIn_getLsbD carry b (by decide), if_pos rfl, hcarry]
  · rw [if_neg (by omega), if_neg (by omega), BitVec.getLsbD_ushiftRight, show i + 1 - 8 = 1 + (i - 8) by omega]

/-- The byte form: each byte's shifted copy takes in the lowest bit of the byte above it. -/
theorem unshift24_bytes (b2 b1 b0 : Byte) :
    unshift24 (b2 ++ b1 ++ b0) =
      (b2 ^^^ (b2 >>> 1)) ++ (b1 ^^^ shiftIn b2 b1) ++ (b0 ^^^ shiftIn b1 b0) := by
  have hmiddle : (b2 ++ b1) >>> 1 = (b2 >>> 1) ++ shiftIn b2 b1 := append_byte_ushiftRight_one b2 b2 b1 rfl
  have hlast : (b2 ++ b1 ++ b0) >>> 1 = ((b2 ++ b1) >>> 1) ++ shiftIn b1 b0 :=
    append_byte_ushiftRight_one (b2 ++ b1) b1 b0 (by rw [BitVec.getLsbD_append, if_pos (by decide)])
  rw [unshift24, hlast, hmiddle, BitVec.xor_append, BitVec.xor_append]

/-- Settles O45: the whole word, the bits and the bytes are three forms of `unshift24`. -/
theorem unshiftIsVXorHalfV : Obligations.UnshiftIsVXorHalfV := by
  intro v s
  refine ⟨unshift24 v, exec_unshift v s, rfl, fun i _ => unshift24_getLsbD v i, unshift24_getLsbD_top v, ?_⟩
  rintro b2 b1 b0 rfl
  exact unshift24_bytes b2 b1 b0

/-! ### The split (R146) -/

theorem exec_split (g : BitVec 24) (s : State) :
    exec (.split g) s =
      .next { s with ret := .symbols (symbolOf g 3) (symbolOf g 2) (symbolOf g 1) (symbolOf g 0) } := rfl

theorem symbolOf_toNat (g : BitVec 24) (k : Nat) : (symbolOf g k).toNat = g.toNat / 2 ^ (5 * k) % 32 := by
  rw [symbolOf, BitVec.extractLsb'_toNat, Nat.shiftRight_eq_div_pow]

/-- The four symbols side by side are the low 20 bits. -/
theorem append_symbolOf (g : BitVec 24) :
    symbolOf g 3 ++ symbolOf g 2 ++ symbolOf g 1 ++ symbolOf g 0 = g.extractLsb' 0 20 := by
  have h32 : symbolOf g 3 ++ symbolOf g 2 = g.extractLsb' 10 10 := BitVec.extractLsb'_append_extractLsb'_eq_extractLsb' rfl
  have h1 : g.extractLsb' 10 10 ++ symbolOf g 1 = g.extractLsb' 5 15 :=
    BitVec.extractLsb'_append_extractLsb'_eq_extractLsb' rfl
  have h0 : g.extractLsb' 5 15 ++ symbolOf g 0 = g.extractLsb' 0 20 :=
    BitVec.extractLsb'_append_extractLsb'_eq_extractLsb' rfl
  rw [h32, h1, h0]

/-- Settles O46: the symbols are neighbouring fields of five bits. -/
theorem splitTakesFiveBitsEach : Obligations.SplitTakesFiveBitsEach := by
  intro g s
  refine ⟨_, _, _, _, exec_split g s, (append_symbolOf g).symm, symbolOf_toNat g 3, symbolOf_toNat g 2,
    symbolOf_toNat g 1, ?_⟩
  rw [symbolOf_toNat, Nat.pow_zero, Nat.div_one]

end Sys2Proof.Machine
end

section
/-! The queries that read one field of a Response (spec/45_response.md R157, R159 to R162, R166). -/

namespace Sys2Proof.Machine

open Sys2Proof

/-! ### The base (R160) -/

/-- Under EDT_SUPPORT a 1 stands before the low byte. -/
theorem respBase_edt (r : BitVec 16) : respBase true r = 1#1 ++ loByte r := by
  rw [respBase, if_pos rfl, BitVec.append_def]
  rfl

/-- Without EDT_SUPPORT bit 8 of the word stands before the low byte. -/
theorem respBase_plain (r : BitVec 16) : respBase false r = r.extractLsb' 8 1 ++ loByte r := by
  have hjoin : r.extractLsb' 8 1 ++ loByte r = r.extractLsb' 0 9 :=
    BitVec.extractLsb'_append_extractLsb'_eq_extractLsb' rfl
  exact hjoin.symm

theorem respBase_eq (edt : Bool) (r : BitVec 16) :
    respBase edt r = if edt then 1#1 ++ loByte r else r.extractLsb' 8 1 ++ loByte r := by
  cases edt with
  | true => exact respBase_edt r
  | false => exact respBase_plain r

/-! ### The exponent and the period (R159, R161) -/

theorem respExponent_toNat (r : BitVec 16) : (respExponent r).toNat = r.toNat / 2 ^ 9 % 8 := by
  rw [respExponent, BitVec.extractLsb'_toNat, Nat.shiftRight_eq_div_pow]

/-- A base of 9 bits shifted by at most 7 stays within the 16 bits, so the shift loses nothing. -/
theorem respPeriod_toNat (edt : Bool) (r : BitVec 16) :
    (respPeriod edt r).toNat = (respBase edt r).toNat * 2 ^ (respExponent r).toNat := by
  have hfits : (respBase edt r).toNat * 2 ^ (respExponent r).toNat < 2 ^ 16 :=
    calc (respBase edt r).toNat * 2 ^ (respExponent r).toNat
      _ < 2 ^ 9 * 2 ^ (respExponent r).toNat := Nat.mul_lt_mul_of_pos_right (respBase edt r).isLt (Nat.two_pow_pos _)
      _ ≤ 2 ^ 9 * 2 ^ 7 :=
        Nat.mul_le_mul_left _ (Nat.pow_le_pow_right Nat.two_pos (Nat.le_of_lt_succ (respExponent r).isLt))
  rw [respPeriod, BitVec.toNat_shiftLeft, BitVec.toNat_setWidth_of_le (by decide), Nat.shiftLeft_eq,
    Nat.mod_eq_of_lt hfits]

/-! ### The stopped Response (R162) -/

theorem respIsStopped_eq_decide (r : BitVec 16) :
    respIsStopped r = decide (hiByte r = 0x0F#8 ∧ loByte r = 0xFF#8) := by
  rw [respIsStopped, Bool.decide_and, beq_eq_decide, beq_eq_decide]

/-! ### What the queries answer -/

theorem exec_isError (r : BitVec 16) (s : State) :
    exec (.isError r) s = .next { s with ret := .bit (respIsError r) } := rfl

theorem exec_getExponent (r : BitVec 16) (s : State) :
    exec (.getExponent r) s = .next { s with ret := .u3 (respExponent r) } := rfl

theorem exec_getBase (r : BitVec 16) (s : State) :
    exec (.getBase r) s = .next { s with ret := .u9 (respBase s.cfg.edtSupport r) } := rfl

theorem exec_getPeriodMicros (r : BitVec 16) (s : State) :
    exec (.getPeriodMicros r) s = .next { s with ret := .u16 (respPeriod s.cfg.edtSupport r) } := rfl

theorem exec_isStopped (r : BitVec 16) (s : State) :
    exec (.isStopped r) s = .next { s with ret := .bit (respIsStopped r) } := rfl

theorem exec_getTelemetryValue (r : BitVec 16) (s : State) :
    exec (.getTelemetryValue r) s = .next { s with ret := .u8 (loByte r) } := rfl

/-- Settles O51: each query answers its field of the word; the period of 16 bits is exact because no shift overflows. -/
theorem responseQueriesReadTheirFields : Obligations.ResponseQueriesReadTheirFields := by
  intro r s
  have hperiod : (respPeriod s.cfg.edtSupport r).toNat =
      (respBase s.cfg.edtSupport r).toNat * 2 ^ (r.toNat / 2 ^ 9 % 8) := by
    rw [respPeriod_toNat, respExponent_toNat]
  refine ⟨exec_isError r s, exec_getExponent r s, ?_, ?_, exec_getTelemetryValue r s⟩
  · exact ⟨_, exec_getBase r s, respBase_eq _ r, _, exec_getPeriodMicros r s, hperiod⟩
  · rw [exec_isStopped, respIsStopped_eq_decide]

end Sys2Proof.Machine
end

section
/-! Records (spec/30_encoding.md R86 to R91; log 2, log 3): every well-formed instruction is read back from its record, and
whatever is read is well formed. The rows of the data formats are told apart by the fields of their words. -/

namespace Sys2Proof

open Sys2Proof.Machine

/-! ### Readers and what was written for them -/

/-- The reader gives back the operand from the bytes written for it, and leaves the bytes after them. -/
def Reads {α : Type} (p : List Byte → Parsed α) (bytes : List Byte) (a : α) : Prop := ∀ r, p (bytes ++ r) = .ok (a, r)

theorem Reads.with1 {α : Type} {p : List Byte → Parsed α} {x : List Byte} {a : α} (h : Reads p x a) (k : α → Instr) :
    Reads (with1 p k) x (k a) := by
  intro r
  simp only [Sys2Proof.with1, h r]

theorem Reads.with2 {α β : Type} {p : List Byte → Parsed α} {q : List Byte → Parsed β} {x y : List Byte} {a : α} {b : β}
    (h : Reads p x a) (h' : Reads q y b) (k : α → β → Instr) : Reads (with2 p q k) (x ++ y) (k a b) := by
  intro r
  simp only [Sys2Proof.with2, List.append_assoc, h (y ++ r)]
  exact h'.with1 (k a) r

theorem reads_decodeSend {bytes : List Byte} {n : Nat} (h : n ≤ 8 * bytes.length) :
    Reads decodeSend (eSeq bytes ++ eNat n) (.send bytes n) := by
  intro r
  simp only [decodeSend, List.append_assoc, pSeq_eSeq, pNat_eNat, if_pos h]

theorem reads_decodeNibbles (n3 n2 n1 : Nibble) :
    Reads decodeNibbles (eNibble n3 ++ eNibble n2 ++ eNibble n1) (.fromNibbles n3 n2 n1) := by
  intro r
  have h := Reads.with2 (pNibble_eNibble n2) (pNibble_eNibble n1) (.fromNibbles n3) r
  rw [List.append_assoc] at h
  simp only [decodeNibbles, List.append_assoc, pNibble_eNibble, h]

theorem reads_decodeChecksum (n3 n2 n1 n0 : Nibble) :
    Reads decodeChecksum (eNibble n3 ++ eNibble n2 ++ eNibble n1 ++ eNibble n0) (.checksum n3 n2 n1 n0) := by
  intro r
  have h := Reads.with2 (pNibble_eNibble n1) (pNibble_eNibble n0) (.checksum n3 n2) r
  rw [List.append_assoc] at h
  simp only [decodeChecksum, List.append_assoc, pNibble_eNibble, h]

/-! ### The rows of CMD16 (R68, R71) -/

/-- A mask of the top `n` bits leaves those bits above zeros. -/
theorem and_highMask {n k : Nat} (w : BitVec (n + k)) :
    w &&& (BitVec.allOnes n ++ 0#k) = w.extractLsb' k n ++ 0#k := by
  apply BitVec.eq_of_getLsbD_eq
  intro i hi
  rw [BitVec.getLsbD_and, BitVec.getLsbD_append, BitVec.getLsbD_append]
  by_cases h : i < k
  · simp [h]
  · simp [h, show i - k < n by omega, show k + (i - k) = i by omega]

theorem and_highMask_eq_iff {n k : Nat} (w : BitVec (n + k)) (v : BitVec n) :
    w &&& (BitVec.allOnes n ++ 0#k) = v ++ 0#k ↔ w.extractLsb' k n = v := by
  rw [and_highMask]
  refine ⟨fun h => ?_, fun h => h ▸ rfl⟩
  rw [← BitVec.extractLsb'_append_eq_left (a := w.extractLsb' k n) (b := 0#k), h, BitVec.extractLsb'_append_eq_left]

/-- The guard of the first row: a command value below 32. -/
theorem cmd16_guard_special0 (w : BitVec 16) : w &&& 0xFC00#16 = 0#16 ↔ (commandValue w).toNat < 32 := by
  rw [show w &&& 0xFC00#16 = 0#16 ↔ w.extractLsb' 10 6 = 0#6 from and_highMask_eq_iff (n := 6) (k := 10) w 0#6,
    ← BitVec.toNat_inj, commandValue, BitVec.extractLsb'_toNat, BitVec.extractLsb'_toNat, Nat.shiftRight_eq_div_pow,
    Nat.shiftRight_eq_div_pow, BitVec.toNat_ofNat]
  have := w.isLt
  omega

/-- The guard of the second row: a command value of 32 to 47. -/
theorem cmd16_guard_special32 (w : BitVec 16) :
    w &&& 0xFE00#16 = 0x0400#16 ↔ 32 ≤ (commandValue w).toNat ∧ (commandValue w).toNat < 48 := by
  rw [show w &&& 0xFE00#16 = 0x0400#16 ↔ w.extractLsb' 9 7 = 2#7 from and_highMask_eq_iff (n := 7) (k := 9) w 2#7,
    ← BitVec.toNat_inj, commandValue, BitVec.extractLsb'_toNat, BitVec.extractLsb'_toNat, Nat.shiftRight_eq_div_pow,
    Nat.shiftRight_eq_div_pow, BitVec.toNat_ofNat]
  have := w.isLt
  omega

theorem cmd16Word_extractLsb' (c : BitVec 11) (t : Bool) (k : Nibble) (n : Nat) :
    (cmd16Word c t k).extractLsb' 5 n = c.extractLsb' 0 n := by
  rw [cmd16Word, BitVec.extractLsb'_append_eq_of_le (by decide), BitVec.extractLsb'_append_eq_of_le (by decide)]

/-- A word of the format is the row of its command value. -/
theorem cmd16Row_cmd16Word (c : BitVec 11) (t : Bool) (k : Nibble) :
    cmd16Row (cmd16Word c t k) =
      if c.toNat < 32 then .cmd16Special0 (c.extractLsb' 0 5) t k
      else if 32 ≤ c.toNat ∧ c.toNat < 48 then .cmd16Special32 (c.extractLsb' 0 4) t k
      else .cmd16Throttle c t k := by
  have hc : (cmd16Word c t k).extractLsb' 5 11 = c := commandValue_cmd16Word c t k
  have ht : (cmd16Word c t k).getLsbD 4 = t := commandT_cmd16Word c t k
  have hk : (cmd16Word c t k).extractLsb' 0 4 = k := commandCrc_cmd16Word c t k
  simp only [cmd16Row, cmd16_guard_special0, cmd16_guard_special32, commandValue_cmd16Word, hc, ht, hk,
    cmd16Word_extractLsb' c t k 5, cmd16Word_extractLsb' c t k 4]

theorem special0_toNat_lt (c : BitVec 5) : (0#6 ++ c).toNat < 32 := by
  rw [BitVec.toNat_append, BitVec.toNat_ofNat]
  simpa using c.isLt

theorem special32_toNat (c : BitVec 4) : (2#7 ++ c).toNat = 32 + c.toNat := by
  rw [BitVec.toNat_append, BitVec.toNat_ofNat, ← Nat.shiftLeft_add_eq_or_of_lt c.isLt]
  rfl

theorem cmd16Row_special0 (c : BitVec 5) (t : Bool) (k : Nibble) :
    cmd16Row (cmd16Special0Word c t k) = .cmd16Special0 c t k := by
  have hrow := cmd16Row_cmd16Word (0#6 ++ c) t k
  rw [if_pos (special0_toNat_lt c), BitVec.extractLsb'_append_eq_right] at hrow
  exact hrow

theorem cmd16Row_special32 (c : BitVec 4) (t : Bool) (k : Nibble) :
    cmd16Row (cmd16Special32Word c t k) = .cmd16Special32 c t k := by
  have hval := special32_toNat c
  have hc : c.toNat < 16 := c.isLt
  have hrow := cmd16Row_cmd16Word (2#7 ++ c) t k
  rw [if_neg (by omega), if_pos (by omega), BitVec.extractLsb'_append_eq_right] at hrow
  exact hrow

theorem cmd16Row_throttle {c : BitVec 11} (h : 48 ≤ c.toNat) (t : Bool) (k : Nibble) :
    cmd16Row (cmd16Word c t k) = .cmd16Throttle c t k := by
  rw [cmd16Row_cmd16Word, if_neg (by omega), if_neg (by omega)]

/-! ### The rows of RESP16 (R80) -/

theorem getLsbD_append_high {m n i : Nat} {x : BitVec n} {y : BitVec m} (h : m ≤ i) :
    (x ++ y).getLsbD i = x.getLsbD (i - m) := by
  rw [BitVec.getLsbD_append, if_neg (by omega)]

theorem resp16ErrorWord_bit15 (low : BitVec 7) (code : Byte) : (resp16ErrorWord low code).getLsbD 15 = true := by
  rw [resp16ErrorWord, getLsbD_append_high (by decide), getLsbD_append_high (by decide)]
  rfl

@[simp] theorem resp16ErrorWord_low (low : BitVec 7) (code : Byte) :
    (resp16ErrorWord low code).extractLsb' 8 7 = low := by
  rw [resp16ErrorWord, BitVec.extractLsb'_append_eq_of_le (by decide)]
  exact BitVec.extractLsb'_append_eq_right

@[simp] theorem resp16ErrorWord_code (low : BitVec 7) (code : Byte) :
    (resp16ErrorWord low code).extractLsb' 0 8 = code := BitVec.extractLsb'_append_eq_right

theorem resp16Row_error (low : BitVec 7) (code : Byte) :
    resp16Row (resp16ErrorWord low code) = .resp16Error low code := by
  rw [resp16Row, if_pos (resp16ErrorWord_bit15 low code), resp16ErrorWord_low, resp16ErrorWord_code]

theorem resp16TelemetryWord_bit15 (rsv tag : BitVec 3) (v : Byte) :
    (resp16TelemetryWord rsv tag v).getLsbD 15 = false := by
  rw [resp16TelemetryWord, getLsbD_append_high (by decide), getLsbD_append_high (by decide),
    getLsbD_append_high (by decide), getLsbD_append_high (by decide)]
  rfl

theorem resp16TelemetryWord_bit8 (rsv tag : BitVec 3) (v : Byte) :
    (resp16TelemetryWord rsv tag v).getLsbD 8 = false := by
  rw [resp16TelemetryWord, getLsbD_append_high (by decide), BitVec.getLsbD_append, if_pos (by decide)]
  rfl

@[simp] theorem resp16TelemetryWord_rsv (rsv tag : BitVec 3) (v : Byte) :
    (resp16TelemetryWord rsv tag v).extractLsb' 12 3 = rsv := by
  rw [resp16TelemetryWord, BitVec.extractLsb'_append_eq_of_le (by decide), BitVec.extractLsb'_append_eq_of_le (by decide),
    BitVec.extractLsb'_append_eq_of_le (by decide)]
  exact BitVec.extractLsb'_append_eq_right

@[simp] theorem resp16TelemetryWord_tag (rsv tag : BitVec 3) (v : Byte) :
    (resp16TelemetryWord rsv tag v).extractLsb' 9 3 = tag := by
  rw [resp16TelemetryWord, BitVec.extractLsb'_append_eq_of_le (by decide), BitVec.extractLsb'_append_eq_of_le (by decide)]
  exact BitVec.extractLsb'_append_eq_right

@[simp] theorem resp16TelemetryWord_value (rsv tag : BitVec 3) (v : Byte) :
    (resp16TelemetryWord rsv tag v).extractLsb' 0 8 = v := BitVec.extractLsb'_append_eq_right

theorem resp16TelemetryWord_ne_stopped (rsv tag : BitVec 3) (v : Byte) : resp16TelemetryWord rsv tag v ≠ 0x0FFF#16 := by
  intro h
  have hbit := resp16TelemetryWord_bit8 rsv tag v
  rw [h] at hbit
  exact absurd hbit (by decide)

theorem resp16Row_telemetry (rsv tag : BitVec 3) (v : Byte) :
    resp16Row (resp16TelemetryWord rsv tag v) = .resp16Telemetry rsv tag v := by
  rw [resp16Row, resp16TelemetryWord_bit15, if_neg Bool.false_ne_true, if_neg (resp16TelemetryWord_ne_stopped rsv tag v),
    if_pos (resp16TelemetryWord_bit8 rsv tag v), resp16TelemetryWord_rsv, resp16TelemetryWord_tag,
    resp16TelemetryWord_value]

theorem resp16PeriodWord_bit15 (rsv e : BitVec 3) (b : BitVec 9) :
    (resp16PeriodWord rsv e b).getLsbD 15 = false := by
  rw [resp16PeriodWord, getLsbD_append_high (by decide), getLsbD_append_high (by decide),
    getLsbD_append_high (by decide)]
  rfl

theorem resp16PeriodWord_bit8 (rsv e : BitVec 3) (b : BitVec 9) :
    (resp16PeriodWord rsv e b).getLsbD 8 = b.getLsbD 8 := by
  rw [resp16PeriodWord, BitVec.getLsbD_append, if_pos (by decide)]

@[simp] theorem resp16PeriodWord_rsv (rsv e : BitVec 3) (b : BitVec 9) :
    (resp16PeriodWord rsv e b).extractLsb' 12 3 = rsv := by
  rw [resp16PeriodWord, BitVec.extractLsb'_append_eq_of_le (by decide), BitVec.extractLsb'_append_eq_of_le (by decide)]
  exact BitVec.extractLsb'_append_eq_right

@[simp] theorem resp16PeriodWord_exponent (rsv e : BitVec 3) (b : BitVec 9) :
    (resp16PeriodWord rsv e b).extractLsb' 9 3 = e := by
  rw [resp16PeriodWord, BitVec.extractLsb'_append_eq_of_le (by decide)]
  exact BitVec.extractLsb'_append_eq_right

@[simp] theorem resp16PeriodWord_base (rsv e : BitVec 3) (b : BitVec 9) :
    (resp16PeriodWord rsv e b).extractLsb' 0 9 = b := BitVec.extractLsb'_append_eq_right

theorem wellFormed_period_iff {rsv e : BitVec 3} {b : BitVec 9} :
    (Instr.resp16Period rsv e b).wellFormed = true ↔ b.getLsbD 8 = true ∧ ¬(rsv = 0#3 ∧ e = 7#3 ∧ b = 0x1FF#9) := by
  simp only [Instr.wellFormed, Bool.and_eq_true, Bool.not_eq_true', ← Bool.not_eq_true, beq_iff_eq, and_assoc]

theorem resp16PeriodWord_ne_stopped {rsv e : BitVec 3} {b : BitVec 9}
    (h : ¬(rsv = 0#3 ∧ e = 7#3 ∧ b = 0x1FF#9)) : resp16PeriodWord rsv e b ≠ 0x0FFF#16 := by
  intro hw
  refine h ⟨?_, ?_, ?_⟩
  · rw [← resp16PeriodWord_rsv rsv e b, hw]
    decide
  · rw [← resp16PeriodWord_exponent rsv e b, hw]
    decide
  · rw [← resp16PeriodWord_base rsv e b, hw]
    decide

theorem resp16Row_period {rsv e : BitVec 3} {b : BitVec 9} (h : (Instr.resp16Period rsv e b).wellFormed = true) :
    resp16Row (resp16PeriodWord rsv e b) = .resp16Period rsv e b := by
  obtain ⟨hbit, hne⟩ := wellFormed_period_iff.mp h
  rw [resp16Row, resp16PeriodWord_bit15, if_neg Bool.false_ne_true, if_neg (resp16PeriodWord_ne_stopped hne),
    resp16PeriodWord_bit8, hbit, if_neg (by decide), resp16PeriodWord_rsv, resp16PeriodWord_exponent,
    resp16PeriodWord_base]

/-! ### Decoding inverts encoding -/

/-- A word of a format is read as its row. -/
theorem reads_row {row : BitVec 16 → Instr} {w : BitVec 16} {i : Instr} (h : row w = i) :
    Reads (Sys2Proof.with1 pWord16 row) (eWord16 w) i := h ▸ Reads.with1 (pWord16_eWord16 w) row

/-- The row of an instruction's first byte reads its operands. -/
theorem reads_decodeOp {i : Instr} (h : i.wellFormed = true) : Reads (decodeOp i.opByte) i.operandBytes i := by
  cases i with
  | sendCommand w | getRaw w | isError w | getError w | getExponent w | getBase w | getPeriodMicros w | isStopped w
  | isTelemetry w | getTelemetryType w | getTelemetryValue w => exact Reads.with1 (pWord16_eWord16 w) _
  | decode v | unshift v | split v => exact Reads.with1 (pWord24_eWord24 v) _
  | setCounter v => exact Reads.with1 (x := [v]) (pByte_cons v) _
  | fromRaw c t | fromThrottle c t => exact Reads.with2 (pInt_eInt c) (pBit_eBit t) _
  | scaleToCommandMax x => exact Reads.with1 (pReal_eReal x) _
  | fromNormalized x t => exact Reads.with2 (pReal_eReal x) (pBit_eBit t) _
  | crc c t => exact Reads.with2 (pWord11_setWidth c) (pBit_eBit t) _
  | fromSpecial c t => exact Reads.with2 (x := [c.setWidth 8]) (pSpecial_cons c (of_decide_eq_true h)) (pBit_eBit t) _
  | send bytes n => exact reads_decodeSend (of_decide_eq_true h)
  | gcrDecode sym => exact Reads.with1 (x := [sym.setWidth 8]) (pSymbol_cons sym) _
  | checksum n3 n2 n1 n0 => exact reads_decodeChecksum n3 n2 n1 n0
  | fromNibbles n3 n2 n1 => exact reads_decodeNibbles n3 n2 n1
  | fromError e => exact Reads.with1 (x := [_]) (pRaised_cons e (by simpa [Instr.wellFormed] using h)) _
  | getRPM w p => exact Reads.with2 (pWord16_eWord16 w) (pPos_eNat p (of_decide_eq_true h)) _
  | cmd16Special0 c t k => exact reads_row (cmd16Row_special0 c t k)
  | cmd16Special32 c t k => exact reads_row (cmd16Row_special32 c t k)
  | cmd16Throttle c t k => exact reads_row (cmd16Row_throttle (of_decide_eq_true h) t k)
  | resp16Error low code => exact reads_row (resp16Row_error low code)
  | resp16Telemetry rsv tag v => exact reads_row (resp16Row_telemetry rsv tag v)
  | resp16Period rsv e b => exact reads_row (resp16Row_period h)
  | _ => exact fun _ => rfl

/-- Settles O58: the record's first byte selects the row whose reader gives the instruction back. -/
theorem decodeInvertsEncode : Obligations.DecodeInvertsEncode := fun _ r h => reads_decodeOp h r

/-! ### Whatever decodes is well formed -/

/-- Every instruction the reader answers is well formed. -/
structure YieldsWellFormed (p : List Byte → Parsed Instr) : Prop where
  wellFormed : ∀ {bs i r}, p bs = .ok (i, r) → i.wellFormed = true

theorem pBelow_lt {limit : Nat} {bs r : List Byte} {n : Nat} (h : pBelow limit bs = .ok (n, r)) : n < limit := by
  cases bs with
  | nil => cases h
  | cons b bs =>
    simp only [pBelow] at h
    split at h
    · cases h; assumption
    · cases h

theorem pSpecial_lt {bs r : List Byte} {c : BitVec 6} (h : pSpecial bs = .ok (c, r)) : c.toNat < 48 := by
  simp only [pSpecial] at h
  split at h
  · cases h
  · rename_i n _ hn
    cases h
    have := pBelow_lt hn
    rw [BitVec.toNat_ofNat]
    omega

theorem pRaised_ne_none {bs r : List Byte} {e : Error} (h : pRaised bs = .ok (e, r)) : e ≠ .none := by
  simp only [pRaised] at h
  split at h
  · cases h
  · rename_i n _ hn
    cases h
    have := pBelow_lt hn
    interval_cases n <;> decide

theorem pPos_pos {bs r : List Byte} {n : Nat} (h : pPos bs = .ok (n, r)) : 1 ≤ n := by
  simp only [pPos] at h
  split at h
  · cases h
  · cases h; omega

theorem YieldsWellFormed.with0 {i : Instr} (h : i.wellFormed = true) : YieldsWellFormed (Sys2Proof.with0 i) := by
  constructor
  rintro bs _ _ ⟨⟩
  exact h

theorem YieldsWellFormed.with1 {α : Type} {p : List Byte → Parsed α} {k : α → Instr}
    (h : ∀ bs a r, p bs = .ok (a, r) → (k a).wellFormed = true) : YieldsWellFormed (Sys2Proof.with1 p k) := by
  constructor
  intro bs i r hi
  simp only [Sys2Proof.with1] at hi
  split at hi
  · cases hi
  · rename_i a _ ha
    cases hi
    exact h _ _ _ ha

theorem YieldsWellFormed.with2 {α β : Type} {p : List Byte → Parsed α} {q : List Byte → Parsed β} {k : α → β → Instr}
    (h : ∀ bs a r bs' b r', p bs = .ok (a, r) → q bs' = .ok (b, r') → (k a b).wellFormed = true) :
    YieldsWellFormed (Sys2Proof.with2 p q k) := by
  constructor
  intro bs i r hi
  simp only [Sys2Proof.with2] at hi
  split at hi
  · cases hi
  · rename_i a r' ha
    exact (YieldsWellFormed.with1 fun _ _ _ hb => h _ _ _ _ _ _ ha hb).wellFormed hi

/-- Rows whose instruction is well formed whatever its operands. -/
theorem YieldsWellFormed.total1 {α : Type} {p : List Byte → Parsed α} {k : α → Instr}
    (h : ∀ a, (k a).wellFormed = true) : YieldsWellFormed (Sys2Proof.with1 p k) := YieldsWellFormed.with1 fun _ a _ _ => h a

theorem YieldsWellFormed.total2 {α β : Type} {p : List Byte → Parsed α} {q : List Byte → Parsed β}
    {k : α → β → Instr} (h : ∀ a b, (k a b).wellFormed = true) : YieldsWellFormed (Sys2Proof.with2 p q k) :=
  YieldsWellFormed.with2 fun _ a _ _ b _ _ _ => h a b

theorem decodeSend_wellFormed : YieldsWellFormed decodeSend := by
  constructor
  intro bs i r h
  simp only [decodeSend] at h
  split at h
  · cases h
  · split at h
    · cases h
    · split at h
      · cases h
        exact decide_eq_true ‹_›
      · cases h

theorem decodeNibbles_wellFormed : YieldsWellFormed decodeNibbles := by
  constructor
  intro bs i r h
  simp only [decodeNibbles] at h
  split at h
  · cases h
  · exact (YieldsWellFormed.total2 fun _ _ => rfl).wellFormed h

theorem decodeChecksum_wellFormed : YieldsWellFormed decodeChecksum := by
  constructor
  intro bs i r h
  simp only [decodeChecksum] at h
  split at h
  · cases h
  · split at h
    · cases h
    · exact (YieldsWellFormed.total2 fun _ _ => rfl).wellFormed h

theorem cmd16Row_wellFormed (w : BitVec 16) : (cmd16Row w).wellFormed = true := by
  unfold cmd16Row
  split
  · rfl
  · rename_i h0
    split
    · rfl
    · rename_i h32
      rw [cmd16_guard_special0] at h0
      rw [cmd16_guard_special32] at h32
      refine decide_eq_true (?_ : 48 ≤ (commandValue w).toNat)
      omega

/-- A word is joined of its sign bit and the three fields of the period row. -/
theorem resp16PeriodWord_fields {w : BitVec 16} (h : w.getLsbD 15 = false) :
    resp16PeriodWord (w.extractLsb' 12 3) (w.extractLsb' 9 3) (w.extractLsb' 0 9) = w := by
  have hsign : w.extractLsb' 15 1 = 0#1 := by
    apply BitVec.eq_of_getLsbD_eq
    intro i hi
    obtain rfl : i = 0 := by omega
    simpa using h
  have hrsv : w.extractLsb' 15 1 ++ w.extractLsb' 12 3 = w.extractLsb' 12 4 :=
    BitVec.extractLsb'_append_extractLsb'_eq_extractLsb' rfl
  have hexp : w.extractLsb' 12 4 ++ w.extractLsb' 9 3 = w.extractLsb' 9 7 :=
    BitVec.extractLsb'_append_extractLsb'_eq_extractLsb' rfl
  rw [resp16PeriodWord, ← hsign, hrsv, hexp]
  exact BitVec.extractLsb'_append_extractLsb'

theorem resp16Row_wellFormed (w : BitVec 16) : (resp16Row w).wellFormed = true := by
  unfold resp16Row
  split
  · rfl
  · rename_i htop
    split
    · rfl
    · rename_i hne
      split
      · rfl
      · rename_i hbit
        have hw := resp16PeriodWord_fields (w := w) (by simpa using htop)
        refine wellFormed_period_iff.mpr ⟨by simpa using hbit, fun ⟨hrsv, he, hb⟩ => hne ?_⟩
        rw [← hw, hrsv, he, hb]
        decide

theorem gcr5Row_wellFormed : ∀ s : Symbol, (gcr5Row s).wellFormed = true := by decide

/-- Every row of the decoder answers well-formed instructions. -/
theorem opRows_wellFormed : ∀ row ∈ opRows, YieldsWellFormed row.2 := by
  have hspecial : YieldsWellFormed (with2 pSpecial pBit .fromSpecial) :=
    YieldsWellFormed.with2 fun _ _ _ _ _ _ h _ => decide_eq_true (pSpecial_lt h)
  have hraised : YieldsWellFormed (with1 pRaised .fromError) :=
    YieldsWellFormed.with1 fun _ _ _ h => decide_eq_true (pRaised_ne_none h)
  have hrpm : YieldsWellFormed (with2 pWord16 pPos .getRPM) :=
    YieldsWellFormed.with2 fun _ _ _ _ _ _ _ h => decide_eq_true (pPos_pos h)
  have hcmd16 : YieldsWellFormed (with1 pWord16 cmd16Row) := YieldsWellFormed.total1 cmd16Row_wellFormed
  have hgcr5 : YieldsWellFormed (with1 pSymbol gcr5Row) := YieldsWellFormed.total1 gcr5Row_wellFormed
  have hresp16 : YieldsWellFormed (with1 pWord16 resp16Row) := YieldsWellFormed.total1 resp16Row_wellFormed
  have herr8 : YieldsWellFormed (with1 (pBelow 7) fun n => err8Row (errorOfIndex n)) :=
    YieldsWellFormed.total1 fun n => by cases errorOfIndex n <;> rfl
  simp only [opRows, List.forall_mem_append, List.forall_mem_cons, List.not_mem_nil, false_imp_iff, implies_true, and_true]
  exact
    ⟨⟨⟨⟨⟨⟨⟨.with0 rfl, .total1 fun _ => rfl, .with0 rfl⟩,
      ⟨.total1 fun _ => rfl, .with0 rfl, .with0 rfl, .with0 rfl, .with0 rfl, .with0 rfl, .with0 rfl,
      .with0 rfl, .with0 rfl⟩⟩,
      ⟨.total2 fun _ _ => rfl, .total2 fun _ _ => rfl, .total1 fun _ => rfl, .total2 fun _ _ => rfl,
      .total2 fun _ _ => rfl, hspecial, .total1 fun _ => rfl⟩⟩,
      ⟨decodeSend_wellFormed, .total1 fun _ => rfl, .total1 fun _ => rfl, .total1 fun _ => rfl,
      .total1 fun _ => rfl, decodeChecksum_wellFormed, decodeNibbles_wellFormed, hraised⟩⟩,
      ⟨.total1 fun _ => rfl, .total1 fun _ => rfl, .total1 fun _ => rfl, .total1 fun _ => rfl,
      .total1 fun _ => rfl, .total1 fun _ => rfl, .total1 fun _ => rfl, .total1 fun _ => rfl,
      .total1 fun _ => rfl, hrpm⟩⟩,
      ⟨.with0 rfl, .with0 rfl, .with0 rfl, .with0 rfl, .with0 rfl, .with0 rfl, .with0 rfl, .with0 rfl,
      .with0 rfl, .with0 rfl, .with0 rfl, .with0 rfl, .with0 rfl⟩⟩,
      ⟨hcmd16, hgcr5, hresp16, herr8⟩⟩

/-- Settles O59: the row that reads the record answers well-formed instructions. -/
theorem decodedIsWellFormed : Obligations.DecodedIsWellFormed := by
  intro bs i r h
  cases bs with
  | nil => cases h
  | cons op bs =>
    simp only [decode, decodeOp] at h
    split at h
    · rename_i reader hrow
      obtain ⟨l₁, l₂, hrows, -⟩ := List.lookup_eq_some_iff.mp hrow
      have hmem : (op.toNat, reader) ∈ opRows := by simp [hrows]
      exact (opRows_wellFormed _ hmem).wellFormed h
    · cases h

/-- Settles O60: each word is decoded by evaluation. -/
theorem wordsDecodeAsTheTableSays : Obligations.WordsDecodeAsTheTableSays :=
  ⟨rfl, rfl, rfl, rfl, rfl, rfl, rfl, rfl, rfl⟩

end Sys2Proof
end

section
/-! The decoder past the split (spec/44_decoder.md R147 to R153): the GCR table as a bijection between its valid symbols and the
nibbles, the pipeline with the errors it reports, and the ESC's encoder, which it inverts. -/

namespace Sys2Proof.Machine

open Sys2Proof

/-! ### The table (R147, R148) -/

theorem exec_gcrDecode (sym : Symbol) (s : State) : exec (.gcrDecode sym) s = .next { s with ret := .u8 (gcrRom s.cfg sym) } :=
  rfl

theorem nibble_ne_sentinel (n : Nibble) : n.setWidth 8 ≠ 0xFF#8 := by
  intro h
  have := congrArg BitVec.toNat h
  rw [BitVec.toNat_setWidth_of_le (by decide), BitVec.toNat_ofNat] at this
  have := n.isLt
  omega

/-- An entry is the sentinel or a nibble. -/
theorem gcrRom_cases {cfg : Config} (h : cfg.gcrOk) (sym : Symbol) :
    gcrRom cfg sym = 0xFF#8 ∨ ∃ n : Nibble, gcrRom cfg sym = n.setWidth 8 := by
  obtain ⟨-, hrange, -⟩ := h
  rcases hrange sym.toFin with hlt | hff
  · refine .inr ⟨(gcrRom cfg sym).setWidth 4, ?_⟩
    apply BitVec.eq_of_toNat_eq
    have hlt : (gcrRom cfg sym).toNat < 16 := hlt
    rw [BitVec.toNat_setWidth, BitVec.toNat_setWidth]
    omega
  · exact .inl hff

/-- The ESC finds a symbol for every nibble. -/
theorem gcrRom_escSymbol {cfg : Config} (h : cfg.gcrOk) (n : Nibble) : gcrRom cfg (escSymbol cfg n) = n.setWidth 8 := by
  obtain ⟨hlen, -, hhit, -⟩ := h
  obtain ⟨sym, hsym⟩ := hhit n.toFin
  have hidx : (sym : Nat) < cfg.gcrDecode.length := by rw [hlen]; exact sym.isLt
  have hentry : cfg.gcrDecode[(sym : Nat)] = n.setWidth 8 := by
    apply BitVec.eq_of_toNat_eq
    rw [gcrEntry, List.getD_eq_getElem _ _ hidx] at hsym
    rw [hsym, BitVec.toNat_setWidth_of_le (by decide)]
    rfl
  have hfind : cfg.gcrDecode.findIdx (· == n.setWidth 8) < cfg.gcrDecode.length :=
    List.findIdx_lt_length.mpr ⟨_, List.getElem_mem hidx, by simp [hentry]⟩
  have hfound := List.findIdx_getElem (w := hfind)
  have hnat : (escSymbol cfg n).toNat = cfg.gcrDecode.findIdx (· == n.setWidth 8) := by
    rw [escSymbol, BitVec.toNat_ofNat]
    exact Nat.mod_eq_of_lt (hfind.trans_eq hlen)
  rw [gcrRom, gcrEntry, hnat, List.getD_eq_getElem _ _ hfind]
  exact beq_iff_eq.mp hfound

/-- No other symbol has a nibble's entry. -/
theorem gcrRom_eq_nibble_iff {cfg : Config} (h : cfg.gcrOk) {sym : Symbol} {n : Nibble} :
    gcrRom cfg sym = n.setWidth 8 ↔ sym = escSymbol cfg n := by
  constructor
  · intro hsym
    have hsame : gcrRom cfg sym = gcrRom cfg (escSymbol cfg n) := hsym.trans (gcrRom_escSymbol h n).symm
    have hvalid : gcrRom cfg sym ≠ 0xFF#8 := hsym ▸ nibble_ne_sentinel n
    obtain ⟨-, -, -, hinj, -⟩ := h
    exact BitVec.toFin_inj.mp (hinj sym.toFin (escSymbol cfg n).toFin hsame hvalid)
  · rintro rfl
    exact gcrRom_escSymbol h n

theorem gcrRom_11001 {cfg : Config} (h : cfg.gcrOk) : gcrRom cfg 0b11001#5 = 0#8 := by
  obtain ⟨-, -, -, -, hzero⟩ := h
  exact hzero

theorem nibbleOf_of_sentinel {cfg : Config} {sym : Symbol} (h : gcrRom cfg sym = 0xFF#8) : nibbleOf cfg sym = none :=
  if_pos h

theorem nibbleOf_of_nibble {cfg : Config} {sym : Symbol} {n : Nibble} (h : gcrRom cfg sym = n.setWidth 8) :
    nibbleOf cfg sym = some n := by
  rw [nibbleOf, h, if_neg (nibble_ne_sentinel n), BitVec.setWidth_setWidth_of_le n (by decide), BitVec.setWidth_eq]

/-- A symbol is invalid, or the ESC's symbol of its nibble. -/
theorem nibbleOf_cases {cfg : Config} (h : cfg.gcrOk) (sym : Symbol) :
    nibbleOf cfg sym = none ∨ ∃ n, nibbleOf cfg sym = some n ∧ sym = escSymbol cfg n := by
  rcases gcrRom_cases h sym with hff | ⟨n, hn⟩
  · exact .inl (nibbleOf_of_sentinel hff)
  · exact .inr ⟨n, nibbleOf_of_nibble hn, (gcrRom_eq_nibble_iff h).mp hn⟩

theorem u8_next_iff {s : State} {a b : Byte} :
    (.next { s with ret := .u8 a } : Result) = .next { s with ret := .u8 b } ↔ a = b := by
  refine ⟨fun h => ?_, fun h => h ▸ rfl⟩
  simpa using congrArg State.ret (Host.Outcome.next.inj h)

/-- Settles O47: the answers are the table's entries, of which every nibble is the one of its ESC symbol. -/
theorem gcrTableIsABijectionOnItsValidSymbols : Obligations.GcrTableIsABijectionOnItsValidSymbols := by
  rintro s ⟨-, -, hgcr, -⟩
  simp only [exec_gcrDecode, u8_next_iff]
  refine ⟨fun sym => rfl, fun n => ?_, fun sym => gcrRom_cases hgcr sym, gcrRom_11001 hgcr⟩
  exact ⟨escSymbol s.cfg n, gcrRom_escSymbol hgcr n, fun sym hsym => (gcrRom_eq_nibble_iff hgcr).mp hsym⟩

/-! ### The checksum and the packing (R149 to R151) -/

theorem xor_eq_iff_eq_xor {w : Nat} {a b c : BitVec w} : a ^^^ b = c ↔ b = a ^^^ c := by
  rw [← BitVec.xor_right_inj a, ← BitVec.xor_assoc, BitVec.xor_self, BitVec.zero_xor]

theorem checksum4_eq_zero_iff {n3 n2 n1 n0 : Nibble} : checksum4 n3 n2 n1 n0 = 0#4 ↔ n3 ^^^ n2 ^^^ n1 ^^^ n0 = 0xF#4 :=
  BitVec.xor_eq_zero_iff

theorem hiByte_respOfError (cfg : Config) (e : Error) : hiByte (respOfError cfg e) = 0x80#8 := hiByte_word16 _ _

theorem loByte_respOfError (cfg : Config) (e : Error) : loByte (respOfError cfg e) = errorCode cfg e := loByte_word16 _ _

/-- Settles O48: the checksum is the XOR of the nibbles inverted; the Responses are packed of their bytes. -/
theorem checksumAndPacking : Obligations.ChecksumAndPacking := by
  intro s
  refine ⟨fun n3 n2 n1 n0 => ⟨_, rfl, rfl, checksum4_eq_zero_iff.trans xor_eq_iff_eq_xor⟩, fun n3 n2 n1 => ?_, fun e he => ?_⟩
  · rw [← respOfNibbles_append]
    rfl
  · exact ⟨_, if_neg he, hiByte_respOfError _ _, loByte_respOfError _ _⟩

/-! ### The pipeline (R148 to R152) -/

theorem exec_decode (v : BitVec 24) (s : State) :
    exec (.decode v) s = .next { s with ret := .response (decodeResponse s.cfg v) } := rfl

/-- `decode` by its four symbols. -/
theorem decodeResponse_of_symbols {cfg : Config} {v : BitVec 24} {s3 s2 s1 s0 : Symbol}
    (h : (unshift24 v).extractLsb' 0 20 = s3 ++ s2 ++ s1 ++ s0) : decodeResponse cfg v = respOfSymbols cfg s3 s2 s1 s0 := by
  obtain ⟨h3, h2, h1, h0⟩ := symbolOf_append h
  simp only [decodeResponse, h3, h2, h1, h0]

/-- Four valid symbols decode to their packed nibbles, or fail the checksum. -/
theorem respOfSymbols_of_nibbles {cfg : Config} {s3 s2 s1 s0 : Symbol} {n3 n2 n1 n0 : Nibble}
    (h3 : nibbleOf cfg s3 = some n3) (h2 : nibbleOf cfg s2 = some n2) (h1 : nibbleOf cfg s1 = some n1)
    (h0 : nibbleOf cfg s0 = some n0) :
    respOfSymbols cfg s3 s2 s1 s0 =
      if n3 ^^^ n2 ^^^ n1 ^^^ n0 = 0xF#4 then 0#4 ++ n3 ++ n2 ++ n1 else respOfError cfg .badChecksum := by
  simp only [respOfSymbols, h3, h2, h1, h0, checksum4_eq_zero_iff, respOfNibbles_append]

/-- Settles O49: the symbols are tested from the most significant on, and then the checksum. -/
theorem decodeReportsTheFirstError : Obligations.DecodeReportsTheFirstError := by
  rintro v s s3 s2 s1 s0 ⟨-, -, hgcr, -⟩ hsplit
  have hsome {sym : Symbol} (h : gcrRom s.cfg sym ≠ 0xFF#8) : ∃ n, nibbleOf s.cfg sym = some n := by
    obtain ⟨n, hn⟩ := (gcrRom_cases hgcr sym).resolve_left h
    exact ⟨n, nibbleOf_of_nibble hn⟩
  refine ⟨respOfSymbols s.cfg s3 s2 s1 s0, ?_, fun h3 => ?_, fun h3 h2 => ?_, fun h3 h2 h1 => ?_, fun h3 h2 h1 h0 => ?_,
    fun n3 n2 n1 n0 h3 h2 h1 h0 => ?_⟩
  · rw [exec_decode, decodeResponse_of_symbols hsplit]
  · simp only [respOfSymbols, nibbleOf_of_sentinel h3]
  · obtain ⟨n3, h3⟩ := hsome h3
    simp only [respOfSymbols, h3, nibbleOf_of_sentinel h2]
  · obtain ⟨n3, h3⟩ := hsome h3
    obtain ⟨n2, h2⟩ := hsome h2
    simp only [respOfSymbols, h3, h2, nibbleOf_of_sentinel h1]
  · obtain ⟨n3, h3⟩ := hsome h3
    obtain ⟨n2, h2⟩ := hsome h2
    obtain ⟨n1, h1⟩ := hsome h1
    simp only [respOfSymbols, h3, h2, h1, nibbleOf_of_sentinel h0]
  · exact respOfSymbols_of_nibbles (nibbleOf_of_nibble h3) (nibbleOf_of_nibble h2) (nibbleOf_of_nibble h1)
      (nibbleOf_of_nibble h0)

/-- The errors of the pipeline. -/
def decodeErrors : List Error :=
  [.badDecodeFirstNibble, .badDecodeSecondNibble, .badDecodeThirdNibble, .badDecodeFourthNibble, .badChecksum]

/-- The pipeline answers an error, or the packed nibbles of the ESC's four symbols of nibbles with the right checksum. -/
theorem respOfSymbols_cases {cfg : Config} (h : cfg.gcrOk) (s3 s2 s1 s0 : Symbol) :
    (∃ e ∈ decodeErrors, respOfSymbols cfg s3 s2 s1 s0 = respOfError cfg e) ∨
    ∃ n3 n2 n1 : Nibble, s3 ++ s2 ++ s1 ++ s0 = escValue cfg n3 n2 n1 ∧
      respOfSymbols cfg s3 s2 s1 s0 = 0#4 ++ n3 ++ n2 ++ n1 := by
  rcases nibbleOf_cases h s3 with h3 | ⟨n3, h3, rfl⟩
  · exact .inl ⟨.badDecodeFirstNibble, by decide, by simp only [respOfSymbols, h3]⟩
  rcases nibbleOf_cases h s2 with h2 | ⟨n2, h2, rfl⟩
  · exact .inl ⟨.badDecodeSecondNibble, by decide, by simp only [respOfSymbols, h3, h2]⟩
  rcases nibbleOf_cases h s1 with h1 | ⟨n1, h1, rfl⟩
  · exact .inl ⟨.badDecodeThirdNibble, by decide, by simp only [respOfSymbols, h3, h2, h1]⟩
  rcases nibbleOf_cases h s0 with h0 | ⟨n0, h0, rfl⟩
  · exact .inl ⟨.badDecodeFourthNibble, by decide, by simp only [respOfSymbols, h3, h2, h1, h0]⟩
  have hresp := respOfSymbols_of_nibbles h3 h2 h1 h0
  by_cases hsum : n3 ^^^ n2 ^^^ n1 ^^^ n0 = 0xF#4
  · rw [if_pos hsum] at hresp
    obtain rfl := xor_eq_iff_eq_xor.mp hsum
    exact .inr ⟨n3, n2, n1, rfl, hresp⟩
  · rw [if_neg hsum] at hresp
    exact .inl ⟨.badChecksum, by decide, hresp⟩

theorem packed_ne_respOfError (cfg : Config) (e : Error) (n3 n2 n1 : Nibble) :
    0#4 ++ n3 ++ n2 ++ n1 ≠ respOfError cfg e := by
  intro h
  have hhi := congrArg hiByte h
  rw [← respOfNibbles_append, hiByte_respOfError, respOfNibbles, hiByte_word16] at hhi
  have := congrArg BitVec.toNat hhi
  rw [BitVec.toNat_setWidth_of_le (by decide), BitVec.toNat_ofNat] at this
  have := n3.isLt
  omega

theorem append_inj_of_eq {m n : Nat} {a a' : BitVec m} {b b' : BitVec n} (h : a ++ b = a' ++ b') : a = a' ∧ b = b' := by
  have hl := congrArg (BitVec.extractLsb' n m) h
  have hr := congrArg (BitVec.extractLsb' 0 n) h
  rw [BitVec.extractLsb'_append_eq_left, BitVec.extractLsb'_append_eq_left] at hl
  rw [BitVec.extractLsb'_append_eq_right, BitVec.extractLsb'_append_eq_right] at hr
  exact ⟨hl, hr⟩

theorem packed_inj {n3 n2 n1 m3 m2 m1 : Nibble} (h : 0#4 ++ n3 ++ n2 ++ n1 = 0#4 ++ m3 ++ m2 ++ m1) :
    n3 = m3 ∧ n2 = m2 ∧ n1 = m1 := by
  obtain ⟨h, h1⟩ := append_inj_of_eq h
  obtain ⟨h, h2⟩ := append_inj_of_eq h
  obtain ⟨-, h3⟩ := append_inj_of_eq h
  exact ⟨h3, h2, h1⟩

/-! ### The ESC's levels (R153) -/

/-- The levels sent so far, and the next one below them. -/
theorem nrziFrom_succ_getLsbD (g : BitVec 20) (k i : Nat) :
    (nrziFrom g (k + 1)).getLsbD i =
      ((nrziFrom g k).getLsbD i ||
        (decide (i = 19 - k) && ((nrziFrom g k).getLsbD (20 - k) != g.getLsbD (19 - k)))) := by
  rw [nrziFrom, BitVec.getLsbD_or, BitVec.getLsbD_shiftLeft, BitVec.getLsbD_setWidth, BitVec.getLsbD_ofBool]
  congr 1
  by_cases hi : i = 19 - k
  · simp [hi, show 19 - k < 20 by omega]
  · rw [decide_eq_false hi]
    by_cases hlow : i < 19 - k
    · simp [hlow]
    · simp [show i - (19 - k) ≠ 0 by omega]

/-- Below the levels sent so far nothing is set. -/
theorem nrziFrom_getLsbD_below (g : BitVec 20) {k i : Nat} (hk : k ≤ 20) (hi : i < 20 - k) :
    (nrziFrom g k).getLsbD i = false := by
  induction k with
  | zero => exact BitVec.getLsbD_zero
  | succ k ih =>
    rw [nrziFrom_succ_getLsbD, ih (by omega) (by omega), decide_eq_false (by omega)]
    rfl

/-- Each level sent differs from the one above it exactly where the value has a 1. -/
theorem nrziFrom_getLsbD_change (g : BitVec 20) {k i : Nat} (hk : k ≤ 20) (hlo : 20 - k ≤ i) (hi : i < 20) :
    ((nrziFrom g k).getLsbD i != (nrziFrom g k).getLsbD (i + 1)) = g.getLsbD i := by
  induction k with
  | zero => omega
  | succ k ih =>
    rw [nrziFrom_succ_getLsbD, nrziFrom_succ_getLsbD, decide_eq_false (p := i + 1 = 19 - k) (by omega), Bool.false_and,
      Bool.or_false]
    by_cases h : i = 19 - k
    · rw [nrziFrom_getLsbD_below g (by omega) (by omega : i < 20 - k), show 20 - k = i + 1 by omega, ← h]
      cases (nrziFrom g k).getLsbD (i + 1) <;> cases g.getLsbD i <;> simp
    · rw [decide_eq_false h, Bool.false_and, Bool.or_false, ih (by omega) (by omega)]

/-- The un-shift of the levels is the value they were sent for. -/
theorem unshift24_nrziFrom (g : BitVec 20) : unshift24 ((nrziFrom g 20).setWidth 24) = g.setWidth 24 := by
  apply BitVec.eq_of_getLsbD_eq
  intro i hi
  rw [unshift24_getLsbD, BitVec.getLsbD_setWidth, BitVec.getLsbD_setWidth, BitVec.getLsbD_setWidth]
  by_cases h : i < 20
  · simpa [hi, show i + 1 < 24 by omega, -BitVec.getLsbD_eq_getElem] using nrziFrom_getLsbD_change g le_rfl (by omega) h
  · rw [BitVec.getLsbD_of_ge _ _ (by omega : 20 ≤ i), BitVec.getLsbD_of_ge _ _ (by omega : 20 ≤ i + 1),
      BitVec.getLsbD_of_ge _ _ (by omega : 20 ≤ i)]
    simp

/-- A raw value is known by its un-shift: its bits from the top down. -/
theorem unshift24_setWidth_inj {r r' : BitVec 20}
    (h : (unshift24 (r.setWidth 24)).extractLsb' 0 20 = (unshift24 (r'.setWidth 24)).extractLsb' 0 20) : r = r' := by
  have hchange (i : Nat) (hi : i < 20) : (r.getLsbD i != r.getLsbD (i + 1)) = (r'.getLsbD i != r'.getLsbD (i + 1)) := by
    have hbit := congrArg (fun x => BitVec.getLsbD x i) h
    simpa [unshift24_getLsbD, hi, show i < 24 by omega, show i + 1 < 24 by omega, -BitVec.getLsbD_eq_getElem] using hbit
  have htop : ∀ k ≤ 20, r.getLsbD (20 - k) = r'.getLsbD (20 - k) := by
    intro k hk
    induction k with
    | zero => rw [BitVec.getLsbD_of_ge r 20 le_rfl, BitVec.getLsbD_of_ge r' 20 le_rfl]
    | succ k ih =>
      have hc := hchange (20 - (k + 1)) (by omega)
      rw [show 20 - (k + 1) + 1 = 20 - k by omega, ih (by omega)] at hc
      exact Bool.bne_left_inj.mp hc
  apply BitVec.eq_of_getLsbD_eq
  intro i hi
  have := htop (20 - i) (by omega)
  rwa [show 20 - (20 - i) = i by omega] at this

theorem unshift24_escLevels (cfg : Config) (n3 n2 n1 : Nibble) :
    unshift24 ((escLevels cfg n3 n2 n1).setWidth 24) = (escValue cfg n3 n2 n1).setWidth 24 := unshift24_nrziFrom _

theorem extractLsb'_setWidth_20 (g : BitVec 20) : (g.setWidth 24).extractLsb' 0 20 = g := by
  rw [BitVec.extractLsb'_setWidth_of_le (by decide)]
  exact BitVec.extractLsb'_eq_self

theorem decodeResponse_escLevels {cfg : Config} (h : cfg.gcrOk) (n3 n2 n1 : Nibble) :
    decodeResponse cfg ((escLevels cfg n3 n2 n1).setWidth 24) = 0#4 ++ n3 ++ n2 ++ n1 := by
  have hsplit : (unshift24 ((escLevels cfg n3 n2 n1).setWidth 24)).extractLsb' 0 20 = escValue cfg n3 n2 n1 := by
    rw [unshift24_escLevels, extractLsb'_setWidth_20]
  have hnib (n : Nibble) : nibbleOf cfg (escSymbol cfg n) = some n := nibbleOf_of_nibble (gcrRom_escSymbol h n)
  rw [decodeResponse_of_symbols hsplit, respOfSymbols_of_nibbles (hnib n3) (hnib n2) (hnib n1) (hnib _), if_pos]
  exact xor_eq_iff_eq_xor.mpr rfl

/-- A raw value decodes to an error, or it is the levels of the nibbles it decodes to. -/
theorem decodeResponse_cases {cfg : Config} (h : cfg.gcrOk) (r : BitVec 20) :
    (∃ e ∈ decodeErrors, decodeResponse cfg (r.setWidth 24) = respOfError cfg e) ∨
    ∃ n3 n2 n1 : Nibble, r = escLevels cfg n3 n2 n1 ∧ decodeResponse cfg (r.setWidth 24) = 0#4 ++ n3 ++ n2 ++ n1 := by
  have hsplit := append_symbolOf (unshift24 (r.setWidth 24))
  rw [decodeResponse_of_symbols hsplit.symm]
  refine (respOfSymbols_cases h _ _ _ _).imp_right fun ⟨n3, n2, n1, hval, hresp⟩ => ⟨n3, n2, n1, ?_, hresp⟩
  apply unshift24_setWidth_inj
  rw [unshift24_escLevels, extractLsb'_setWidth_20, ← hval, hsplit]

/-- Settles O50: the levels are the changes of the value, which un-shifting gives back; every other raw value fails. -/
theorem decodeInvertsTheEsc : Obligations.DecodeInvertsTheEsc := by
  rintro cfg ⟨-, -, hgcr, -⟩
  refine ⟨fun n3 n2 n1 => ⟨?_, fun r hr => ?_⟩, fun r => ?_⟩
  · rintro s rfl
    rw [exec_unshift, exec_decode, unshift24_escLevels, decodeResponse_escLevels hgcr]
    exact ⟨rfl, rfl⟩
  · rcases decodeResponse_cases hgcr r with ⟨e, -, he⟩ | ⟨m3, m2, m1, hlevels, hm⟩
    · exact absurd (hr.symm.trans he) (packed_ne_respOfError cfg e n3 n2 n1)
    · obtain ⟨rfl, rfl, rfl⟩ := packed_inj (hr.symm.trans hm)
      exact hlevels
  · rcases decodeResponse_cases hgcr r with herr | ⟨n3, n2, n1, hlevels, -⟩
    · exact .inr herr
    · exact .inl ⟨n3, n2, n1, hlevels⟩

end Sys2Proof.Machine
end

section
/-! The Response by its class (spec/30_encoding.md R79 to R83, 45_response.md R158, R163 to R165): the laws of its fields, the
queries that can be refused, and the words of the data formats. -/

namespace Sys2Proof.Machine

open Sys2Proof

/-! ### Fields of a Response -/

theorem respIsStopped_iff {r : BitVec 16} : respIsStopped r = true ↔ r = 0x0FFF#16 := by
  rw [respIsStopped_eq_decide, decide_eq_true_iff]
  constructor
  · rintro ⟨hhi, hlo⟩
    rw [← halves_append r, ← hiByte, ← loByte, hhi, hlo]
    decide
  · rintro rfl
    decide

theorem respIsTelemetry_iff {edt : Bool} {r : BitVec 16} :
    respIsTelemetry edt r = true ↔ edt = true ∧ r.getLsbD 15 = false ∧ r.getLsbD 8 = false := by
  simp only [respIsTelemetry, Bool.and_eq_true, Bool.not_eq_true', and_assoc]

theorem respBase_edt_toNat (r : BitVec 16) : (respBase true r).toNat = 256 + r.toNat % 256 := by
  rw [respBase_edt, BitVec.toNat_append, ← Nat.shiftLeft_add_eq_or_of_lt (loByte r).isLt, loByte, BitVec.extractLsb'_toNat]
  rfl

theorem respBase_plain_toNat (r : BitVec 16) : (respBase false r).toNat = r.toNat % 512 := by
  rw [respBase, if_neg Bool.false_ne_true, BitVec.extractLsb'_toNat]
  rfl

/-- With bit 8 set the base is the low nine bits under both settings. -/
theorem respBase_of_bit8 {r : BitVec 16} (h : r.getLsbD 8 = true) (edt : Bool) : respBase edt r = r.extractLsb' 0 9 := by
  cases edt with
  | false => rfl
  | true =>
    have hbit : r.extractLsb' 8 1 = 1#1 := by
      apply BitVec.eq_of_getLsbD_eq
      intro i hi
      obtain rfl : i = 0 := by omega
      simpa using h
    rw [respBase_edt, ← hbit, ← respBase_plain]
    rfl

theorem respPeriod_le (edt : Bool) (r : BitVec 16) : (respPeriod edt r).toNat ≤ 65408 := by
  have hbase : (respBase edt r).toNat ≤ 511 := Nat.le_of_lt_succ (respBase edt r).isLt
  have hpow : 2 ^ (respExponent r).toNat ≤ 2 ^ 7 :=
    Nat.pow_le_pow_right Nat.two_pos (Nat.le_of_lt_succ (respExponent r).isLt)
  rw [respPeriod_toNat]
  exact Nat.mul_le_mul hbase hpow

/-! ### The class (R80) -/

theorem respClassOf_of_error {r : BitVec 16} (h : respIsError r = true) (edt : Bool) :
    respClassOf edt r = .error (loByte r) := if_pos h

theorem respClassOf_of_stopped {r : BitVec 16} (h : respIsError r = false) (hs : respIsStopped r = true) (edt : Bool) :
    respClassOf edt r = .stopped := by simp [respClassOf, h, hs]

theorem respClassOf_of_telemetry {edt : Bool} {r : BitVec 16} (h : respIsError r = false) (hs : respIsStopped r = false)
    (ht : respIsTelemetry edt r = true) : respClassOf edt r = .telemetry (respTelemTag r) (loByte r) := by
  simp [respClassOf, h, hs, ht]

theorem respClassOf_of_period {edt : Bool} {r : BitVec 16} (h : respIsError r = false) (hs : respIsStopped r = false)
    (ht : respIsTelemetry edt r = false) : respClassOf edt r = .period (respExponent r) (respBase edt r) := by
  simp [respClassOf, h, hs, ht]

/-- Each class holds exactly where its test is the first that does. -/
theorem respClassOf_iff (edt : Bool) (r : BitVec 16) :
    (respClassOf edt r = .error (loByte r) ↔ respIsError r = true) ∧
    (respClassOf edt r = .stopped ↔ respIsError r = false ∧ respIsStopped r = true) ∧
    ((∃ tag value, respClassOf edt r = .telemetry tag value) ↔
      respIsError r = false ∧ respIsStopped r = false ∧ respIsTelemetry edt r = true) ∧
    ((∃ e b, respClassOf edt r = .period e b) ↔
      respIsError r = false ∧ respIsStopped r = false ∧ respIsTelemetry edt r = false) := by
  cases h : respIsError r with
  | true => simp [respClassOf_of_error h]
  | false =>
    cases hs : respIsStopped r with
    | true => simp [respClassOf_of_stopped h hs]
    | false =>
      cases ht : respIsTelemetry edt r with
      | true => simp [respClassOf_of_telemetry h hs ht]
      | false => simp [respClassOf_of_period h hs ht]

theorem respIsError_word16 (a b : Byte) : respIsError (word16 a b) = a.getLsbD 7 :=
  getLsbD_append_high (by decide)

/-- Settles O53: the first law is the tests' order; the others are bounds and bits of the fields. -/
theorem responseLaws : Obligations.ResponseLaws := by
  intro edt cfg herr
  refine ⟨respClassOf_iff edt, respPeriod_le edt, fun n3 n2 n1 => ⟨?_, ?_⟩, fun e => ⟨?_, ?_⟩, fun r hr => ?_, fun r e b hr => ?_⟩
  · rw [respOfNibbles, respIsError_word16, BitVec.getLsbD_setWidth, BitVec.getLsbD_of_ge n3 7 (by decide), Bool.and_false]
  · rw [respOfNibbles, hiByte_word16, BitVec.toNat_setWidth_of_le (by decide)]
    exact n3.isLt
  · exact respIsError_word16 _ _
  · rw [loByte_respOfError, errorOfCode_errorCode herr]
  · obtain rfl := respIsStopped_iff.mp hr
    cases edt <;> decide
  · obtain ⟨-, -, -, hperiod⟩ := respClassOf_iff true r
    obtain ⟨herror, -, htelem⟩ := hperiod.mp ⟨e, b, hr⟩
    have hbit : r.getLsbD 8 = true := by
      by_contra hbit
      exact absurd (respIsTelemetry_iff.mpr ⟨rfl, herror, by simpa using hbit⟩) (by simp [htelem])
    exact respBase_of_bit8 hbit true

/-! ### The queries that can be refused (R158, R163) -/

theorem errorOfCode_eq_none {cfg : Config} {code : Byte} (h : ∀ e : Error, errorCode cfg e ≠ code) :
    errorOfCode cfg code = none := by
  rw [errorOfCode, List.find?_eq_none]
  intro e _
  simpa using h e

theorem exec_getError_of_ok {r : BitVec 16} (h : r.getLsbD 15 = false) (s : State) :
    exec (.getError r) s = .next { s with ret := .error .none } := if_neg (by rw [respIsError, h]; exact Bool.false_ne_true)

theorem exec_getError_of_some {r : BitVec 16} {s : State} {e : Error} (h : r.getLsbD 15 = true)
    (he : errorOfCode s.cfg (loByte r) = some e) : exec (.getError r) s = .next { s with ret := .error e } := by
  refine (if_pos h).trans ?_
  simp only [he]
  rfl

theorem exec_getError_of_none {r : BitVec 16} {s : State} (h : r.getLsbD 15 = true)
    (he : errorOfCode s.cfg (loByte r) = none) : exec (.getError r) s = .refused .unknownErrorCode := by
  refine (if_pos h).trans ?_
  simp only [he]

theorem exec_isTelemetry (r : BitVec 16) (s : State) :
    exec (.isTelemetry r) s = .next { s with ret := .bit (respIsTelemetry s.cfg.edtSupport r) } := rfl

theorem exec_getTelemetryType (r : BitVec 16) (s : State) :
    exec (.getTelemetryType r) s =
      .next { s with ret := .telemType (r.extractLsb' 9 3) (s.cfg.telemTag.lookup (r.extractLsb' 9 3)) } := rfl

/-- The period in numbers: the base bits times 2 to the exponent bits. -/
theorem respPeriod_toNat_eq (edt : Bool) (r : BitVec 16) :
    (respPeriod edt r).toNat =
      (if edt then 256 + r.toNat % 256 else r.toNat % 512) * 2 ^ (r.toNat / 2 ^ 9 % 8) := by
  rw [respPeriod_toNat, respExponent_toNat]
  cases edt with
  | true => rw [respBase_edt_toNat, if_pos rfl]
  | false => rw [respBase_plain_toNat, if_neg Bool.false_ne_true]

/-- RPM_ROUND stays within its bound, and is the identity where it is exact. -/
theorem rpmRound_bound (rounding : RpmRounding) (q : Rat) :
    rpmRound rounding q - q < 1 ∧ q - rpmRound rounding q < 1 ∧ (rounding = .exact → rpmRound rounding q = q) := by
  cases rounding with
  | exact => simp [rpmRound]
  | free n =>
    refine ⟨?_, ?_, fun h => by cases h⟩ <;> · simp only [rpmRound]; split <;> simp [*]

theorem rpmOf_of_zero {edt : Bool} {r : BitVec 16} {n : Nat} (h : n = 0 ∨ (respPeriod edt r).toNat = 0) :
    rpmOf edt r n = none := if_pos (h.imp_right fun hp => BitVec.eq_of_toNat_eq hp)

theorem rpmOf_of_pos {edt : Bool} {r : BitVec 16} {n : Nat} (hn : 1 ≤ n) (hp : 1 ≤ (respPeriod edt r).toNat) :
    rpmOf edt r n = some (mkRat 60000000 (n * (respPeriod edt r).toNat)) := by
  refine if_neg (not_or.mpr ⟨by omega, fun h => ?_⟩)
  rw [h] at hp
  exact absurd hp (by decide)

theorem exec_getRPM_of_some {r : BitVec 16} {n : Nat} {q : Rat} {s : State} (h : rpmOf s.cfg.edtSupport r n = some q) :
    exec (.getRPM r n) s = .next { s with ret := .rpm q (rpmRound s.cfg.rpmRound q) } := by
  simp only [exec, execGetRPM, h]
  rfl

theorem exec_getRPM_of_none {r : BitVec 16} {n : Nat} {s : State} (h : rpmOf s.cfg.edtSupport r n = none) :
    exec (.getRPM r n) s = .refused .zeroDivisor := by simp only [exec, execGetRPM, h]

/-- Settles O52: `getError` by the code's Error; `getRPM` divides exactly where its divisor is not 0. -/
theorem errorTelemetryAndRpmQueries : Obligations.ErrorTelemetryAndRpmQueries := by
  intro r s
  refine ⟨fun h => exec_getError_of_ok h s, fun e herr h hcode => ?_, fun h hcode => ?_, ?_, exec_getTelemetryType r s,
    fun n p hp => ⟨fun hn hpos => ?_, fun hz => ?_⟩⟩
  · exact exec_getError_of_some h (hcode ▸ errorOfCode_errorCode herr e)
  · exact exec_getError_of_none h (errorOfCode_eq_none hcode)
  · rw [exec_isTelemetry, Bool.eq_iff_iff.mpr (respIsTelemetry_iff.trans decide_eq_true_iff.symm)]
  · rw [← respPeriod_toNat_eq] at hp
    obtain ⟨hup, hlow, hexact⟩ := rpmRound_bound s.cfg.rpmRound (mkRat 60000000 (n * p))
    subst hp
    refine ⟨_, _, exec_getRPM_of_some (rpmOf_of_pos hn hpos), ?_, hup, hlow, hexact⟩
    have hne : ((n * (respPeriod s.cfg.edtSupport r).toNat : Nat) : Rat) ≠ 0 := by positivity
    rw [Rat.mkRat_eq_div]
    push_cast at hne ⊢
    field_simp
  · rw [← respPeriod_toNat_eq] at hp
    exact exec_getRPM_of_none (rpmOf_of_zero (hp ▸ hz))

/-! ### The words of the formats (R68, R71, R80, R83) -/

/-- A CMD16 word is read as the class of its command value, with its own crc checked. -/
theorem readCommandWord_cmd16Word (c : BitVec 11) (t : Bool) (k : Nibble) (s : State) :
    readCommandWord (cmd16Word c t k) s =
      .next { s with ret := .commandWord (commandClass c) t k (k == crc4 s.cfg.inv c t) } := by
  rw [readCommandWord, commandValue_cmd16Word, commandT_cmd16Word, commandCrc_cmd16Word]
  rfl

theorem commandClass_of_special {c : BitVec 11} (h : c.toNat < 48) : commandClass c = .special c := if_pos h

theorem commandClass_of_throttle {c : BitVec 11} (h : 48 ≤ c.toNat) : commandClass c = .throttle (c.toNat - 48) :=
  if_neg (by omega)

theorem respClassOf_errorWord (edt : Bool) (low : BitVec 7) (code : Byte) :
    respClassOf edt (resp16ErrorWord low code) = .error code := by
  rw [respClassOf_of_error (resp16ErrorWord_bit15 low code), loByte, resp16ErrorWord_code]

theorem respIsStopped_eq_false {r : BitVec 16} (h : r ≠ 0x0FFF#16) : respIsStopped r = false :=
  Bool.eq_false_iff.mpr fun hs => h (respIsStopped_iff.mp hs)

theorem respClassOf_telemetryWord (edt : Bool) (rsv tag : BitVec 3) (v : Byte) :
    respClassOf edt (resp16TelemetryWord rsv tag v) = if edt then .telemetry tag v else .period tag (0#1 ++ v) := by
  have herr : respIsError (resp16TelemetryWord rsv tag v) = false := resp16TelemetryWord_bit15 rsv tag v
  have hstop := respIsStopped_eq_false (resp16TelemetryWord_ne_stopped rsv tag v)
  have hlo : loByte (resp16TelemetryWord rsv tag v) = v := resp16TelemetryWord_value rsv tag v
  cases edt with
  | true =>
    have htelem : respIsTelemetry true (resp16TelemetryWord rsv tag v) = true :=
      respIsTelemetry_iff.mpr ⟨rfl, herr, resp16TelemetryWord_bit8 rsv tag v⟩
    rw [respClassOf_of_telemetry herr hstop htelem, respTelemTag, resp16TelemetryWord_tag, hlo, if_pos rfl]
  | false =>
    have hbit : (resp16TelemetryWord rsv tag v).extractLsb' 8 1 = 0#1 := by
      rw [resp16TelemetryWord, BitVec.extractLsb'_append_eq_of_le (by decide)]
      exact BitVec.extractLsb'_append_eq_right
    rw [respClassOf_of_period herr hstop rfl, respExponent, resp16TelemetryWord_tag, respBase_plain, hbit, hlo,
      if_neg Bool.false_ne_true]

theorem respClassOf_periodWord (edt : Bool) {rsv e : BitVec 3} {b : BitVec 9}
    (h : (Instr.resp16Period rsv e b).wellFormed = true) : respClassOf edt (resp16PeriodWord rsv e b) = .period e b := by
  obtain ⟨hb, hne⟩ := wellFormed_period_iff.mp h
  have hbit : (resp16PeriodWord rsv e b).getLsbD 8 = true := (resp16PeriodWord_bit8 rsv e b).trans hb
  have htelem : respIsTelemetry edt (resp16PeriodWord rsv e b) = false :=
    Bool.eq_false_iff.mpr fun ht => by
      obtain ⟨-, -, hclear⟩ := respIsTelemetry_iff.mp ht
      exact absurd (hclear.symm.trans hbit) Bool.false_ne_true
  rw [respClassOf_of_period (resp16PeriodWord_bit15 rsv e b) (respIsStopped_eq_false (resp16PeriodWord_ne_stopped hne)) htelem,
    respBase_of_bit8 hbit, respExponent, resp16PeriodWord_exponent, resp16PeriodWord_base]

/-- Settles O54: a word is read by the fields its class was built of. -/
theorem formatWordsAreReadByClass : Obligations.FormatWordsAreReadByClass := by
  intro s
  refine ⟨fun c t k => ?_, fun c t k => ?_, fun c t k h => ?_, fun low code => ?_, rfl, fun rsv tag v => ?_,
    fun rsv e b h => ?_, rfl, rfl, rfl, rfl, rfl, rfl, rfl, fun h e => errorOfCode_errorCode h e,
    fun code h => errorOfCode_eq_none h⟩
  · have hlt := special0_toNat_lt c
    rw [← commandClass_of_special (by omega)]
    exact readCommandWord_cmd16Word _ t k s
  · have hval := special32_toNat c
    have hlt : c.toNat < 16 := c.isLt
    rw [← commandClass_of_special (c := 2#7 ++ c) (by omega)]
    exact readCommandWord_cmd16Word _ t k s
  · rw [← commandClass_of_throttle h]
    exact readCommandWord_cmd16Word c t k s
  · rw [← respClassOf_errorWord s.cfg.edtSupport low code]
    rfl
  · rw [← respClassOf_telemetryWord s.cfg.edtSupport rsv tag v]
    rfl
  · rw [← respClassOf_periodWord s.cfg.edtSupport h]
    rfl

theorem readSymbol_eq (sym : Symbol) (s : State) :
    readSymbol sym s = .next { s with ret := .u8 (s.cfg.gcrDecode.getD sym.toNat 0xFF#8) } := rfl

/-- Settles O55: each of the 32 rows reads its own symbol. -/
theorem symbolWordsReadTheirEntry : Obligations.SymbolWordsReadTheirEntry := by
  intro s
  constructor
  · intro p hp
    fin_cases hp <;> exact readSymbol_eq _ s
  · rintro ⟨-, -, hgcr, -⟩
    rw [← gcrRom_11001 hgcr]
    rfl

end Sys2Proof.Machine
end

section
/-! The constructors of the codec and SCALE_ROUND as configured (spec/41_command_codec.md R108 to R111). -/

namespace Sys2Proof.Machine

open Sys2Proof

/-! ### The constructors (R108, R109, R111) -/

theorem fromRawValue_refused {c : Int} (h : c < 0 ∨ 2047 < c) (t : Bool) (s : State) :
    fromRawValue c t s = .refused .rawOutOfRange := if_neg (by omega)

theorem clampThrottle_eq (n : Int) : clampThrottle n = max 0 (min n 1999) := by
  unfold clampThrottle
  split_ifs <;> omega

/-- What every operand but a NaN scales to is at most Max. -/
theorem scaleReal_of_ne_nan (cuts : List Cut) {x : RealArg} (h : x ≠ .nan) :
    ∃ m ≤ commandMax, scaleReal cuts x = some m := by
  cases x with
  | fin q => exact ⟨_, scaleFin_le_max cuts q, scaleReal_fin cuts q⟩
  | posInf => exact ⟨_, le_rfl, rfl⟩
  | negInf => exact ⟨0, Nat.zero_le _, rfl⟩
  | nan => exact absurd rfl h

theorem exec_scaleToCommandMax_of_some {x : RealArg} {s : State} {m : Nat} (h : scaleReal s.cfg.scaleCuts x = some m) :
    exec (.scaleToCommandMax x) s = .next { s with ret := .scaled m } := by
  simp only [exec, execScaleToCommandMax, h]
  rfl

theorem exec_fromNormalized_of_some {x : RealArg} {s : State} {m : Nat} (h : scaleReal s.cfg.scaleCuts x = some m) (t : Bool) :
    exec (.fromNormalized x t) s = exec (.fromRaw (m + 48) t) s := by
  simp only [exec, execFromNormalized, execFromRaw, h]

/-- Settles O21: every constructor reduces to `fromRaw` of a value in range, whose frame is packed of its fields. -/
theorem constructorsBuildTheFrame : Obligations.ConstructorsBuildTheFrame := by
  intro t s
  refine ⟨fun c hlo hhi => ?_, fun c h => fromRawValue_refused h t s, fun n => ?_, fun x hx => ?_⟩
  · refine ⟨_, fromRawValue_of_range ⟨hlo, hhi⟩ t s, ?_, commandT_packCommand _ _ _, ?_⟩
    · rw [commandValue_packCommand, BitVec.toNat_ofNat]
      omega
    · rw [commandValue_packCommand, commandCrc_packCommand, exec_crc]
  · obtain ⟨hlo, hhi⟩ := clampThrottle_range n
    rw [← clampThrottle_eq]
    exact ⟨_, fromRawValue_of_range ⟨by omega, by omega⟩ t s, fromRawValue_of_range ⟨by omega, by omega⟩ t s⟩
  · obtain ⟨m, hm, hscale⟩ := scaleReal_of_ne_nan s.cfg.scaleCuts hx
    have hmax : m ≤ 1999 := hm
    have hraw := fromRawValue_of_range (c := m + 48) ⟨by omega, by omega⟩ t s
    exact ⟨m, _, exec_scaleToCommandMax_of_some hscale, (exec_fromNormalized_of_some hscale t).trans hraw, hraw⟩

/-! ### SCALE_ROUND between two integers (R110; log 20) -/

/-- Max times a nonnegative real, as a fraction of naturals. -/
theorem mul_max_eq_div {q : Rat} (h : 0 ≤ q) : q * 1999 = ((q.num.toNat * commandMax : Nat) : Rat) / q.den := by
  have hnum : ((q.num.toNat : Nat) : Rat) = q.num := by
    rw [← Int.cast_natCast, Int.toNat_of_nonneg (Rat.num_nonneg.mpr h)]
  push_cast
  rw [hnum]
  conv_lhs => rw [← Rat.num_div_den q]
  norm_num [commandMax]
  ring

/-- A fraction of naturals strictly between k and k + 1: its floor and its remainder. -/
theorem div_mod_of_between {p d k : Nat} (hd : 0 < d) (hlo : (k : Rat) < (p : Rat) / d) (hhi : (p : Rat) / d < (k : Rat) + 1) :
    p / d = k ∧ p % d ≠ 0 ∧ (p : Rat) / d - k = ((p % d : Nat) : Rat) / d := by
  have hd' : (0 : Rat) < d := by exact_mod_cast hd
  rw [lt_div_iff₀ hd'] at hlo
  rw [div_lt_iff₀ hd'] at hhi
  have hlo' : k * d < p := by exact_mod_cast hlo
  have hhi' : p < (k + 1) * d := by exact_mod_cast hhi
  have hfloor : p / d = k := Nat.div_eq_of_lt_le hlo'.le hhi'
  have hsum := Nat.div_add_mod p d
  rw [hfloor] at hsum
  refine ⟨hfloor, fun hz => ?_, ?_⟩
  · rw [hz, Nat.add_zero, Nat.mul_comm] at hsum
    omega
  · have hcast : (p : Rat) = d * k + ((p % d : Nat) : Rat) := by exact_mod_cast hsum.symm
    rw [hcast]
    field_simp
    ring

theorem scaleRound_of_noCut {cuts : List Cut} {p d : Nat} (h : cuts[p / d]? = none) : scaleRound cuts p d = p / d := by
  rw [scaleRound_eq_floor_iff]
  exact .inr fun cut hc => by simp [h] at hc

/-- Under a cut the fraction goes down or up. -/
theorem scaleRound_of_goesDown {cuts : List Cut} {p d : Nat} {cut : Cut} (h : cuts[p / d]? = some cut)
    (hdown : GoesDown cut (p % d) d) : scaleRound cuts p d = p / d := by
  rw [scaleRound_eq_floor_iff]
  exact .inr fun cut' hc => Option.some_inj.mp (h.symm.trans hc) ▸ hdown

theorem scaleRound_of_goesUp {cuts : List Cut} {p d : Nat} {cut : Cut} (h : cuts[p / d]? = some cut) (hne : p % d ≠ 0)
    (hup : ¬GoesDown cut (p % d) d) : scaleRound cuts p d = p / d + 1 := by
  have hnot : scaleRound cuts p d ≠ p / d := by
    rw [Ne, scaleRound_eq_floor_iff]
    exact not_or.mpr ⟨hne, fun hall => hup (hall cut h)⟩
  obtain ⟨hlo, hhi, -⟩ := scaleRound_bounds cuts p d
  omega

/-- The cut as the rationals order it. -/
theorem goesDown_iff {cut : Cut} {r d : Nat} (hd : 0 < d) (hden : 0 < cut.den) :
    GoesDown cut r d ↔ (r : Rat) / d < (cut.num : Rat) / cut.den ∨
      (cut.down = true ∧ (r : Rat) / d = (cut.num : Rat) / cut.den) := by
  have hd' : (0 : Rat) < d := by exact_mod_cast hd
  have hden' : (0 : Rat) < cut.den := by exact_mod_cast hden
  rw [div_lt_div_iff₀ hd' hden', div_eq_div_iff hd'.ne' hden'.ne', GoesDown]
  norm_cast

/-- Strictly between k and k + 1 the real scales as its fraction is rounded there. -/
theorem scaleFin_of_strictlyBetween (cuts : List Cut) {k : Nat} {q : Rat} (hk : k < 1999) (hlo : (k : Rat) < q * 1999)
    (hhi : q * 1999 < (k : Rat) + 1) :
    ∃ p d, 0 < d ∧ p / d = k ∧ p % d ≠ 0 ∧ q * 1999 - k = ((p % d : Nat) : Rat) / d ∧
      scaleFin cuts q = scaleRound cuts p d := by
  have hknonneg : (0 : Rat) ≤ k := by positivity
  have hkmax : (k : Rat) + 1 ≤ 1999 := by exact_mod_cast hk
  have hpos : 0 < q := by linarith
  have hone : q < 1 := by linarith
  have hfrac := mul_max_eq_div hpos.le
  rw [hfrac] at hlo hhi
  obtain ⟨hfloor, hrem, hdiff⟩ := div_mod_of_between q.den_pos hlo hhi
  exact ⟨_, _, q.den_pos, hfloor, hrem, hfrac ▸ hdiff, scaleFin_of_between cuts hpos hone⟩

/-- The points k/1999 go to k, whatever the cuts. -/
theorem scaleFin_of_point (cuts : List Cut) {k : Nat} (hk : k ≤ 1999) : scaleFin cuts (mkRat k 1999) = k := by
  have hq : mkRat k 1999 * 1999 = (k : Rat) := by
    rw [Rat.mkRat_eq_div]
    push_cast
    field_simp
  generalize mkRat k 1999 = q at hq ⊢
  have hkcast : (k : Rat) ≤ 1999 := by exact_mod_cast hk
  rcases Nat.eq_zero_or_pos k with rfl | hpos
  · exact scaleFin_of_nonpos cuts (by push_cast at hq; linarith)
  have hkpos : (0 : Rat) < k := by exact_mod_cast hpos
  rcases Nat.lt_or_eq_of_le hk with hlt | rfl
  · have hklt : (k : Rat) < 1999 := by exact_mod_cast hlt
    have hqpos : 0 < q := by linarith
    have hqone : q < 1 := by linarith
    rw [mul_max_eq_div hqpos.le, div_eq_iff (by exact_mod_cast q.den_nz)] at hq
    have hmul : q.num.toNat * commandMax = k * q.den := by exact_mod_cast hq
    obtain ⟨-, -, hexact⟩ := scaleRound_bounds cuts (q.num.toNat * commandMax) q.den
    rw [scaleFin_of_between cuts hqpos hqone, hexact (by rw [hmul, Nat.mul_mod_left]), hmul,
      Nat.mul_div_cancel _ q.den_pos]
  · exact scaleFin_of_one_le cuts (by push_cast at hq; linarith)

/-- Without cuts the product is truncated. -/
theorem scaleFin_of_noCuts {q : Rat} (hz : 0 ≤ q) (ho : q ≤ 1) : scaleFin [] q = (q * 1999).floor.toNat := by
  rcases hz.eq_or_lt with rfl | hpos
  · rw [scaleFin_of_nonpos [] le_rfl, zero_mul]
    rfl
  rcases ho.eq_or_lt with rfl | hone
  · rw [scaleFin_of_one_le [] le_rfl, one_mul]
    rfl
  · have hfloor : (q * 1999).floor = ((q.num.toNat * commandMax / q.den : Nat) : Int) := by
      rw [mul_max_eq_div hz]
      exact (Rat.floor_natCast_div_natCast _ _).trans (Int.natCast_div _ _).symm
    rw [scaleFin_of_between [] hpos hone, scaleRound_of_noCut (by rfl), hfloor, Int.toNat_natCast]

/-- Settles O23: each interval is rounded by its own cut, or truncated without one. -/
theorem scaleRoundsAsConfigured : Obligations.ScaleRoundsAsConfigured := by
  intro s
  refine ⟨rfl, fun _ => rfl, rfl, rfl, fun k hk => ?_, fun hcuts q hz ho => ?_, fun k q hk hlo hhi => ?_⟩
  · rw [exec_scaleToCommandMax_fin, scaleFin_of_point _ hk]
  · rw [exec_scaleToCommandMax_fin, hcuts, scaleFin_of_noCuts hz ho]
  · obtain ⟨p, d, hd, rfl, hrem, hfrac, hscale⟩ := scaleFin_of_strictlyBetween s.cfg.scaleCuts hk hlo hhi
    rw [exec_scaleToCommandMax_fin, hscale, hfrac]
    refine ⟨fun hcut => by rw [scaleRound_of_noCut hcut], fun cut hcut hden => ⟨fun hlt => ?_, fun heq => ?_, fun hgt => ?_⟩⟩
    · rw [scaleRound_of_goesDown hcut ((goesDown_iff hd hden).mpr (.inl hlt))]
    · cases hdown : cut.down with
      | true => rw [scaleRound_of_goesDown hcut ((goesDown_iff hd hden).mpr (.inr ⟨hdown, heq⟩)), if_pos rfl]
      | false =>
        have hup : ¬GoesDown cut (p % d) d := by
          rw [goesDown_iff hd hden, heq, hdown]
          simp
        rw [scaleRound_of_goesUp hcut hrem hup, if_neg Bool.false_ne_true]
    · have hup : ¬GoesDown cut (p % d) d := by
        rw [goesDown_iff hd hden]
        rintro (hlt | ⟨-, heq⟩)
        · exact absurd hlt (not_lt.mpr hgt.le)
        · exact absurd heq hgt.ne'
      rw [scaleRound_of_goesUp hcut hrem hup]

end Sys2Proof.Machine
end

section
/-! One step at a time: reset, the launches and their refusals, the tick, the encoder's cycle, and which instruction a step runs
(spec/10_state.md section 11, 46_top_level.md section 2, 70_reset_and_hazards.md section 1, 43_receiver.md R126). -/

namespace Sys2Proof.Machine

open Sys2Proof

/-! ### Reset (R50, R189) -/

/-- Settles O2: the invariant of the idle machine, before any call. -/
theorem invHoldsAtReset : Obligations.InvHoldsAtReset := idle_inv [] false

/-- Settles O1: a due reset is the whole step. -/
theorem resetLeavesEveryActivityOff : Obligations.ResetLeavesEveryActivityOff := by
  refine ⟨⟨rfl, rfl, rfl, rfl, rfl, rfl, rfl⟩, fun s rest h => ?_⟩
  have htail : s.afterReset.resets = rest := congrArg List.tail h
  exact ⟨_, step_of_reset h, rfl, rfl, rfl, rfl, rfl, rfl, rfl, rfl, rfl, rfl, rfl, htail, rfl⟩

/-! ### The launches (R128, R169, R170, R120) -/

/-- Settles O6: what `init()` writes leaves the host's turn, and a second call writes the same. -/
theorem initSetsTheIdleState : Obligations.InitSetsTheIdleState := by
  intro s h
  obtain ⟨-, hbusy⟩ := hostTurn_iff.mp h
  refine ⟨_, hostWrite_of_turn h, hostWrite_of_turn (hostTurn_iff.mpr ⟨rfl, hbusy⟩), rfl⟩

theorem irqDiscipline_iff {s : State} : s.irqDiscipline = true ↔ s.gie = true ∧ s.otherIrq = false := by
  simp [State.irqDiscipline]

/-- A frame has 16 bits, so its launch opens the first window. -/
theorem launched_frame (s : State) :
    s.launched .frame =
      { s with txSrc := .frame, txi := 0, out := true, txph := .winA, txcnt := s.cfg.txA, txBusy := true } := rfl

/-- Settles O7: the preconditions hold, and the launch opens window A of bit 0. -/
theorem sendCommandLaunchesTheFrame : Obligations.SendCommandLaunchesTheFrame := by
  intro w s hturn hready hmsb hgie hirq
  exact exec_sendCommand_eq_next.mpr ⟨hturn, hready, hmsb, irqDiscipline_iff.mpr ⟨hgie, hirq⟩, rfl⟩

/-- `getResponse` as a call of the host. -/
theorem exec_getResponse_of_turn {s : State} (h : s.hostTurn = true) :
    exec .getResponse s =
      if !s.ready then .refused .notInitialised
      else if !s.cfg.msbFirst then .refused .msbFirstRequired
      else if !s.irqDiscipline then .refused .interruptsNotSetUp
      else .next s.armed := by
  obtain ⟨hhost, -⟩ := hostTurn_iff.mp h
  have hphase : ¬(s.phase = .sending ∧ s.txBusy = false) := fun hs => by simp [hs.1, Phase.isHosts] at hhost
  exact (if_neg hphase).trans (asHost_of_turn h _)

/-- `getResponse` as the stage after a sent frame. -/
theorem exec_getResponse_of_sent {s : State} (hp : s.phase = .sending) (hb : s.txBusy = false) :
    exec .getResponse s = .next (s.setDir .input).armed := if_pos ⟨hp, hb⟩

theorem exec_sendCommand_of_turn {s : State} (h : s.hostTurn = true) (w : BitVec 16) :
    exec (.sendCommand w) s =
      if !s.ready then .refused .notInitialised
      else if !s.cfg.msbFirst then .refused .msbFirstRequired
      else if !s.irqDiscipline then .refused .interruptsNotSetUp
      else .next (({ s with cmd := w, done := false, phase := .sending, dir := .output, ret := .unit } : State).launched .frame) :=
  asHost_of_turn h _

theorem exec_send_of_turn {s : State} (h : s.hostTurn = true) (bytes : List Byte) (n : Nat) :
    exec (.send bytes n) s =
      if s.otherIrq then .refused .interruptsNotSetUp
      else if 8 * bytes.length < n then .refused .bitCountTooLarge
      else .next ((s.returning .unit).launched (.buffer bytes n)) := asHost_of_turn h _

/-- Settles O8: both uses arm the receiver; the stage after a frame turns the pin first. -/
theorem getResponseArmsTheReceiver : Obligations.GetResponseArmsTheReceiver := by
  refine fun s => ⟨fun hturn hready hmsb hgie hirq => ?_, fun hp hb => exec_getResponse_of_sent hp hb⟩
  have hdisc : s.irqDiscipline = true := irqDiscipline_iff.mpr ⟨hgie, hirq⟩
  exact (exec_getResponse_of_turn hturn).trans (by simp [hready, hmsb, hdisc, State.armed])

/-- Settles O9: the preconditions are tested in this order. -/
theorem launchesAreRefusedUnderABrokenPrecondition : Obligations.LaunchesAreRefusedUnderABrokenPrecondition := by
  intro s hturn
  simp only [exec_getResponse_of_turn hturn, exec_sendCommand_of_turn hturn, exec_send_of_turn hturn]
  refine ⟨fun hready => ?_, fun hready hmsb => ?_, fun hready hmsb hirq => ?_, fun bytes n hirq => ?_,
    fun bytes n hirq hlen => ?_⟩
  · simp [hready]
  · simp [hready, hmsb]
  · have hdisc : s.irqDiscipline = false := by rcases hirq with h | h <;> simp [State.irqDiscipline, h]
    simp [hready, hmsb, hdisc]
  · simp [hirq]
  · simp [hirq, hlen]

/-- Settles O10: each of these calls asks for the host's turn first. -/
theorem registerCallsAreRefusedWhileTheBlockOwnsThem : Obligations.RegisterCallsAreRefusedWhileTheBlockOwnsThem := by
  intro s h
  refine ⟨fun i hi => ?_, fun v => asHost_busy h _, fun c => asHost_busy h _, fun bytes n => asHost_busy h _, fun hs => ?_⟩
  · fin_cases hi <;> exact asHost_busy h _
  · have hnot : ¬(s.phase = .sending ∧ s.txBusy = false) := fun ⟨hp, hb⟩ => by simp [hp, hb] at hs
    exact (if_neg hnot).trans (asHost_busy h _)

/-- Settles O26: an empty send lowers the pin, any other opens window A of bit 0. -/
theorem sendLaunchesThePulses : Obligations.SendLaunchesThePulses := by
  intro bytes n s hturn hirq hlen
  rw [exec_send_eq_next.mpr ⟨hturn, hirq, hlen, rfl⟩]
  have hbits : ({ s.returning .unit with txSrc := .buffer bytes n, txi := 0 } : State).txBits = n := rfl
  rcases launched_cases (s.returning .unit) (.buffer bytes n) with ⟨hz, hl⟩ | ⟨hnz, hl⟩
  · rw [hbits] at hz
    subst hz
    rw [hl, if_pos rfl]
    rfl
  · rw [hbits] at hnz
    rw [hl, if_neg hnz]
    rfl

/-! ### The tick (R94, R95) -/

theorem exec_tickShort_of_run {s : State} (hr : s.run = true) (hm : s.mode = .short) (h : s.tcnt.toNat ≤ s.top.toNat) :
    exec .tickShort s =
      .next (if s.tcnt = s.top then { s with tcnt := 0#8, flag := true } else { s with tcnt := s.tcnt + 1#8 }) := by
  have htop : s.overTop = false := by rw [overTop_short hm, decide_eq_false_iff_not]; omega
  have hexec : exec .tickShort s = .next s.ticked := by simp [exec, execTickShort, hr, hm, htop]
  rw [hexec]
  by_cases heq : s.tcnt = s.top
  · rw [if_pos heq, ticked_of_eq_limit (heq.trans (limit_short hm).symm)]
  · rw [if_neg heq, ticked_of_ne_limit (limit_short hm ▸ heq)]

/-- Settles O18: the tick of each mode, and its refusal above TOP. -/
theorem tickCountsOrWraps : Obligations.TickCountsOrWraps := fun _ hr =>
  ⟨fun hm => exec_tickMax_of_run hr hm, fun hm hle => exec_tickShort_of_run hr hm hle,
    fun hm hlt => exec_tickShort_of_overTop hr hm hlt⟩

theorem runsTo_self {s : State} (h : step s = .next s) (k : Nat) : RunsTo k s s := by
  induction k with
  | zero => exact runsTo_zero.mpr rfl
  | succ k ih => exact runsTo_succ.mpr ⟨s, h, ih⟩

/-- Settles O19: left alone the timer counts up to its limit and wraps; stopped, it makes every step an idle one. -/
theorem timerPeriodIsExact : Obligations.TimerPeriodIsExact := by
  intro s ht hq hc
  constructor
  · intro hie hr hle
    have hfree : s.FreeRunning := ⟨ht, hq, hc, hie, hr⟩
    exact ⟨fun k hk => hfree.runsTo_count k (by omega), hfree.runsTo_wrap hle⟩
  · intro hp hr k
    have hstep : step s = .next s := by rw [step_of_turn hq ht, hostStep_of_noCall hp hc, idleStep_of_stopped hr]
    exact runsTo_self hstep k

/-! ### The tick beside a call (log 10) -/

theorem tickSetsFlag_eq_decide (s : State) : s.tickSetsFlag = decide (s.tcnt = s.limit) := beq_eq_decide ..

theorem tickAlong_of_tick {i : Instr} {s t : State} (hs : s.run = true) (ht : t.run = true) (hi : hasTick i = true)
    (ho : s.overTop = false) :
    tickAlong i s t = .next { t with tcnt := s.tickCount, flag := t.flag || s.tickSetsFlag } := by
  simp [tickAlong, hs, ht, hi, ho]

theorem tickAlong_of_overTop {i : Instr} {s t : State} (hs : s.run = true) (ht : t.run = true) (hi : hasTick i = true)
    (ho : s.overTop = true) : tickAlong i s t = .refused .counterAboveTop := by
  simp [tickAlong, hs, ht, hi, ho]

theorem tickAlong_of_stopped {s t : State} (h : s.run = false ∨ t.run = false) (i : Instr) :
    tickAlong i s t = .next t := by
  rcases h with h | h <;> simp [tickAlong, h]

theorem serviced_of_turn {s : State} (hp : s.pending = true) (ht : s.hostTurn = true) :
    serviced s = exec .irqEntry s := by simp [serviced, hp, ht]

theorem serviced_of_busy {s : State} (hp : s.pending = true) (ht : s.hostTurn = false) :
    serviced s = .refused .interruptDuringSend := by simp [serviced, hp, ht]

/-- Settles O15: the tick of the step sets FLAG again. -/
theorem clearFlagLosesToTheTick : Obligations.ClearFlagLosesToTheTick := by
  intro s ht
  refine ⟨hostWrite_of_turn ht, fun rest hq hie hr hl hc => ?_⟩
  have hexec : exec .clearFlag { s with calls := rest } = .next { s with calls := rest, flag := false, ret := .unit } :=
    hostWrite_of_turn (s := { s with calls := rest }) ht
  have htick : tickAlong .clearFlag { s with calls := rest } { s with calls := rest, flag := false, ret := .unit } =
      .next { s with flag := true, tcnt := 0#8, calls := rest, ret := .unit } := by
    have htop : s.overTop = false := overTop_of_le_limit (hl ▸ le_rfl)
    have hcount : s.tickCount = 0#8 := if_pos hl
    have hflag : s.tickSetsFlag = true := beq_iff_eq.mpr hl
    rw [← hflag, ← hcount]
    exact tickAlong_of_tick (i := .clearFlag) hr hr rfl htop
  have hserv := serviced_of_notPending
    (pending_of_polled (s := { s with flag := true, tcnt := 0#8, calls := rest, ret := .unit }) hie)
  calc step s = hostStep s := step_of_turn hq ht
    _ = callStep .clearFlag { s with calls := rest } := hostStep_of_call (pending_of_polled hie) hc (r := []) rfl rfl
    _ = serviced { s with flag := true, tcnt := 0#8, calls := rest, ret := .unit } := by
      rw [callStep, hexec, andThen_next, htick, andThen_next]
    _ = _ := hserv

/-! ### A cycle of a `send` (R121; log 13) -/

theorem cycleTicked_eq (s : State) :
    s.cycleTicked =
      { s with
        tcnt := if s.tickDue then s.tickCount else s.tcnt
        flag := s.flag || s.tickDue && s.tickSetsFlag
        ticksIn := if s.run then s.ticksIn.tail else s.ticksIn
        freeCount := if s.run then s.freeCount + 1 else s.freeCount } := by
  rcases cycleTicked_cases s with ⟨hr, h⟩ | ⟨hr, hd, h⟩ | ⟨hr, hd, h⟩
  · have hrun : ¬s.run = true := by simp [hr]
    simp only [h, tickDue_off hr, if_neg hrun, if_neg Bool.false_ne_true, Bool.false_and, Bool.or_false]
  · simp only [h, hd, if_pos hr, if_neg Bool.false_ne_true, Bool.false_and, Bool.or_false]
  · simp only [h, hd, if_pos hr, if_true, Bool.true_and, State.ticked]

theorem exec_txStep_of_busy {s : State} (h : s.txBusy = true) : exec .txStep s = s.txCycle := onlyIf_of_guard h _

/-- Settles O27: the timer's part of the cycle first, and on its state the encoder's part, case by case. -/
theorem encoderCycle : Obligations.EncoderCycle := by
  intro s hb
  rw [exec_txStep_of_busy hb]
  refine ⟨s.tickDue, tickDue_off, fun b rest hr hi => tickDue_input hr hi, fun hd ho => ?_, fun c hc hok => ?_⟩
  · simp [State.txCycle, hd, ho]
  have hcycle : s.cycleTicked = c := by rw [cycleTicked_eq, hc, tickSetsFlag_eq_decide]; rfl
  have hdue : (s.tickDue && s.overTop) = false := by rcases hok with h | h <;> simp [h]
  refine ⟨fun hp => by simp [State.txCycle, hdue, hcycle, hp], fun hp => ?_⟩
  have hnext : s.txCycle = .next c.encoderCycle := by simp [State.txCycle, hdue, hcycle, hp]
  have hfields : c.txcnt = s.txcnt ∧ c.txph = s.txph ∧ c.txi = s.txi ∧ c.txBits = s.txBits ∧ c.txBit = s.txBit ∧
      c.out = s.out ∧ c.cfg = s.cfg := by subst hc; exact ⟨rfl, rfl, rfl, rfl, rfl, rfl, rfl⟩
  obtain ⟨hcnt, hph, hi, hbits, hbit, hout, hcfg⟩ := hfields
  rw [hnext, ← hcnt, ← hph, ← hi, ← hbits, ← hbit, ← hout, ← hcfg]
  refine ⟨fun h => ?_, fun h hw => ?_, fun h hw => ?_, fun h hw hn => ?_, fun h hw hn => ?_⟩
  · rw [encoderCycle_count h]
  · rw [encoderCycle_winA h hw]
    cases c.txBit <;> simp
  · rw [encoderCycle_winB h hw]
  · rw [encoderCycle_next h hw hn]
  · rw [encoderCycle_last h hw hn, ← hn]
    rfl

/-! ### Which instruction a step runs (R126) -/

theorem step_of_own {s : State} {i : Instr} (hq : s.quiet) (ht : s.hostTurn = false) (hi : s.ownStep = some i) :
    step s = exec i s := by
  rw [step_of_quiet hq, advance_of_own hq.2 ht hi]

theorem ownStep_sent {s : State} (hp : s.phase = .sending) (hb : s.txBusy = false) : s.ownStep = some .getResponse := by
  simp [State.ownStep, hp, hb]

theorem ownStep_firstEdge {s : State} (hp : s.phase = .waitingForFirstEdge) (hpin : s.pinRead = false) :
    s.ownStep = some .rxFirstEdge := by simp [State.ownStep, hp, hpin]

theorem ownStep_wait {s : State} (hp : s.phase = .waitingForFirstEdge) (hpin : s.pinRead = true) (hc : s.tcnt ≠ 255#8) :
    s.ownStep = some .rxWait := by simp [State.ownStep, hp, hpin, hc]

theorem ownStep_ovf {s : State} (hp : s.phase = .waitingForFirstEdge) (hpin : s.pinRead = true) (hc : s.tcnt = 255#8)
    (hb : 1 < s.budget) : s.ownStep = some .rxOvf := by simp [State.ownStep, hp, hpin, hc, hb]

theorem ownStep_timeout {s : State} (hp : s.phase = .waitingForFirstEdge) (hpin : s.pinRead = true) (hc : s.tcnt = 255#8)
    (hb : s.budget = 1) : s.ownStep = some .rxTimeout := by simp [State.ownStep, hp, hpin, hc, hb]

theorem ownStep_count {s : State} (hp : s.phase = .sampling) (hpin : s.pinRead = s.prev) (hn : 1 < s.next) :
    s.ownStep = some .rxCount := by simp [State.ownStep, hp, hpin, hn]

theorem ownStep_sample {s : State} (hp : s.phase = .sampling) (hpin : s.pinRead = s.prev) (hn : s.next = 1) :
    s.ownStep = some .rxSample := by simp [State.ownStep, hp, hpin, hn]

theorem ownStep_collide {s : State} (hp : s.phase = .sampling) (hpin : s.pinRead ≠ s.prev) (hn : s.next = 1) :
    s.ownStep = some .rxCollide := by simp [State.ownStep, hp, hpin, hn]

theorem ownStep_edge {s : State} (hp : s.phase = .sampling) (hpin : s.pinRead ≠ s.prev) (hn : s.next ≠ 1) :
    s.ownStep = some .rxEdge := by simp [State.ownStep, hp, hpin, hn]

/-- Settles O57: the guard selects the rule, and the step is it. -/
theorem stepRunsTheBlocksOwnRule : Obligations.StepRunsTheBlocksOwnRule := by
  intro s hq ht
  have hstep {i : Instr} : s.ownStep = some i → step s = exec i s := step_of_own hq ht
  refine ⟨fun h => hstep ?_, fun hp hb => hstep (ownStep_sent hp hb), fun hp hpin => hstep (ownStep_firstEdge hp hpin),
    fun hp hpin hc => hstep (ownStep_wait hp hpin hc), fun hp hpin hc hb => hstep (ownStep_ovf hp hpin hc hb),
    fun hp hpin hc hb => hstep (ownStep_timeout hp hpin hc hb), fun hp hpin hn => hstep (ownStep_count hp hpin hn),
    fun hp hpin hn => hstep (ownStep_sample hp hpin hn), fun hp hpin hn => hstep (ownStep_collide hp hpin hn),
    fun hp hpin hn => hstep (ownStep_edge hp hpin hn)⟩
  rcases h with hhost | ⟨hp, hb⟩
  · have hb : s.txBusy = true := by simpa [State.hostTurn, hhost] using ht
    exact ownStep_of_txBusy hb (.inl hhost)
  · exact ownStep_of_txBusy hb (.inr hp)

/-! ### The host's turn (log 1, log 10, log 11, log 16) -/

theorem hostStep_of_pending {s : State} (h : s.pending = true) :
    hostStep s = andThen (exec .irqEntry s) (tickAlong .irqEntry s) := if_pos h

theorem hostStep_of_idle {s : State} {rest : List (List Byte)} (hp : s.pending = false)
    (hc : s.calls = [] ∧ rest = [] ∨ s.calls = [] :: rest) : hostStep s = idleStep { s with calls := rest } := by
  rcases hc with ⟨hc, rfl⟩ | hc
  · rw [hostStep_of_noCall hp hc, ← hc]
  · simp [hostStep, hp, hc]

theorem hostStep_of_badRecord {s : State} {b : Byte} {bs : List Byte} {rest : List (List Byte)} {e : DecodeError}
    (hp : s.pending = false) (hc : s.calls = (b :: bs) :: rest) (hd : decode (b :: bs) = .error e) :
    hostStep s = .refused (.badCall e) := by simp [hostStep, hp, hc, hd]

theorem hostStep_of_stepRecord {s : State} {b : Byte} {bs r : List Byte} {rest : List (List Byte)} {i : Instr}
    (hp : s.pending = false) (hc : s.calls = (b :: bs) :: rest) (hd : decode (b :: bs) = .ok (i, r)) (hi : i.isStep = true) :
    hostStep s = .refused .stepIsNotACall := by simp [hostStep, hp, hc, hd, hi]

/-- The calls that have a tick beside them. -/
theorem hasTick_call_iff {i : Instr} (hi : i.isStep = false) :
    hasTick i = true ↔
      i ∈ [Instr.setMaxTimeout, .setShortTimeout, .start, .stop, .clearFlag, .hasOverflowed, .enableInterrupt,
          .disableInterrupt] ∨ (∃ w, i = .sendCommand w) ∨ ∃ bytes n, i = .send bytes n := by
  have hirq : i ≠ .irqEntry := fun h => by simp [h, Instr.isStep] at hi
  rw [hasTick_iff, or_comm]
  simp [hirq]

theorem exec_irqEntry_of_noTarget {s : State} (hp : s.pending = true) (hj : s.jt = .none) :
    exec .irqEntry s = .refused .irqWithoutTarget := by
  simp [exec, execIrqEntry, hp, takeInterrupt, hj]

/-- Settles O56: the host's step by its cases, the tick beside a call by whether the call has one. -/
theorem stepRunsTheHostsCall : Obligations.StepRunsTheHostsCall := by
  rintro s u b bs r rest i c f hq ht rfl rfl rfl
  rw [step_of_turn hq ht, ← tickSetsFlag_eq_decide]
  refine ⟨fun hp => ?_, fun hp hc hd hi => ?_, fun hp hc => ?_, fun hp hc e hd => hostStep_of_badRecord hp hc hd,
    fun hp hc hd hi => hostStep_of_stepRecord hp hc hd hi⟩
  · rw [hostStep_of_pending hp]
    refine ⟨fun hj => by rw [exec_irqEntry_of_noTarget hp hj, andThen_refused], fun t hexec => ?_⟩
    rw [hexec, andThen_next]
    exact ⟨fun hs ht ho => tickAlong_of_overTop hs ht rfl ho, fun hs ht ho => tickAlong_of_tick hs ht rfl ho,
      fun h => tickAlong_of_stopped h _⟩
  · rw [hostStep_of_call hp hc hd hi, callStep]
    refine ⟨fun e hexec => by rw [hexec, andThen_refused], fun t hexec ticks hticks => ?_⟩
    rw [← hasTick_call_iff hi] at hticks
    rw [hexec, andThen_next]
    refine ⟨fun htrue ho => ?_, fun t' hok ht' => ?_⟩
    · obtain ⟨hs, hr, htick⟩ := hticks.mp htrue
      rw [tickAlong_of_overTop (s := { s with calls := rest }) hs hr htick ho, andThen_refused]
    · have halong : tickAlong i { s with calls := rest } t = .next t' := by
        cases ticks with
        | true =>
          obtain ⟨hs, hr, htick⟩ := hticks.mp rfl
          rw [ht', if_pos rfl]
          exact tickAlong_of_tick (s := { s with calls := rest }) hs hr htick (hok.resolve_left (by decide))
        | false =>
          have hnot : (s.run && t.run && hasTick i) = false := by
            rw [Bool.eq_false_iff]
            simpa [and_assoc] using hticks
          rw [ht', if_neg Bool.false_ne_true]
          exact if_neg (by simp [hnot])
      rw [halong, andThen_next]
      exact ⟨serviced_of_notPending, serviced_of_turn, serviced_of_busy⟩
  · rw [hostStep_of_idle hp hc, idleStep_eq]
    refine ⟨fun hr => ?_, fun hr ho => ?_, fun hr ho t' ht' => ?_⟩
    · exact if_neg (by simp [hr])
    · exact (if_pos hr).trans (if_pos ho)
    · have hstep : idleStep { s with calls := rest } = serviced t' := by
        rw [ht', idleStep_eq]
        exact (if_pos hr).trans (if_neg (Bool.eq_false_iff.mp ho))
      have hturn : t'.hostTurn = true := ht' ▸ ht
      rw [← idleStep_eq, hstep]
      exact ⟨serviced_of_notPending, fun hp' => serviced_of_turn hp' hturn⟩

end Sys2Proof.Machine
end

section
/-! The receiver's tick rules that end a phase (spec/43_receiver.md sections 3 and 4): the timeout, the first edge, the sample with
its completion, the collision; and that one rule and no other applies at every tick. -/

namespace Sys2Proof.Machine

open Sys2Proof

/-! ### The rules under their guards -/

theorem exec_rxTimeout_of_guard {s : State} (hp : s.phase = .waitingForFirstEdge) (hpin : s.pinRead = true)
    (hc : s.tcnt = 255#8) (hb : s.budget = 1) :
    exec .rxTimeout s =
      .next
        { s.nextLevel with
          tcnt := 0#8, flag := false, budget := 0, run := false, resp := respOfError s.cfg .responseTimeout, done := true,
          phase := .done, ret := .response (respOfError s.cfg .responseTimeout) } := by
  refine (onlyIf_of_guard (by simp [waitsHigh_iff.mpr ⟨hp, hpin⟩, hc, hb]) _).trans ?_
  rw [nextLevel_eq, nextLevel_eq s]
  rfl

theorem exec_rxFirstEdge_of_guard {s : State} (hp : s.phase = .waitingForFirstEdge) (hpin : s.pinRead = false) :
    exec .rxFirstEdge s =
      .next
        { s.nextLevel with
          mode := .short, top := BitVec.ofNat 8 (s.cfg.tb - 1), next := s.cfg.tb + s.cfg.th, flag := false,
          jt := .readBit, ie := true, prev := false, phase := .sampling, tcnt := s.loosenTcnt.tcnt,
          freeCount := s.freeCount + 1 } := by
  refine (onlyIf_of_guard (by simp [hp, hpin]) _).trans ?_
  rw [nextLevel_eq, nextLevel_eq s]
  rfl

/-- Settles O32: the guard holds, and raising the Error writes the Response whose two bytes these are. -/
theorem timeoutRaisesResponseTimeout : Obligations.TimeoutRaisesResponseTimeout := fun s hp hpin hc hb =>
  ⟨_, hiByte_respOfError s.cfg .responseTimeout, loByte_respOfError s.cfg .responseTimeout,
    exec_rxTimeout_of_guard hp hpin hc hb⟩

/-- Settles O33: the free value of TCNT is the one the step draws. -/
theorem firstEdgeStartsSampling : Obligations.FirstEdgeStartsSampling := fun _ hp hpin =>
  ⟨_, exec_rxFirstEdge_of_guard hp hpin⟩

/-- Settles O36: the guard holds, and the meaning is the completion. -/
theorem completionDecodesAcc : Obligations.CompletionDecodesAcc := fun _ hp hc =>
  onlyIf_of_guard (by simp [hp, hc]) _

/-! ### The sampler (R135, R180, R181) -/

theorem takeInterrupt_of_target {s : State} (h : s.jt = .readBit) :
    takeInterrupt s = .next (((s.setFlag false).sampled s.pinRead).nextLevel) := takeInterrupt_eq_next.mpr ⟨h, rfl⟩

/-- The sampler returns to the loop while the marker is still in ACC. -/
theorem sampled_of_unfinished {s : State} (h : s.acc.getLsbD 23 = false) (l : Level) :
    ((s.setFlag false).sampled l).nextLevel =
      { s.nextLevel with
        flag := false, carry := false, acc := s.acc.extractLsb' 0 23 ++ BitVec.ofBool l, bitidx := s.bitidx + 1,
        next := s.cfg.tb } := by
  have hcarry : shiftCarry (s.setFlag false).acc = false := h
  rcases sampled_cases (s.setFlag false) l with ⟨-, hs⟩ | ⟨hc, -⟩
  · rw [hs, nextLevel_eq, nextLevel_eq s, ← shiftAcc_append, ← hcarry]
    rfl
  · exact absurd (hcarry.symm.trans hc) Bool.false_ne_true

/-- It completes the receive when the marker leaves ACC as the carry. -/
theorem sampled_of_marker {s : State} (h : s.acc.getLsbD 23 = true) (l : Level) :
    ((s.setFlag false).sampled l).nextLevel =
      { s.nextLevel with
        flag := false, carry := true, acc := shiftAcc s.acc l, bitidx := s.bitidx + 1, next := s.cfg.tb, ie := false,
        run := false, resp := decodeResponse s.cfg (shiftAcc s.acc l), done := true, phase := .done,
        ret := .response (decodeResponse s.cfg (shiftAcc s.acc l)) } := by
  have hcarry : shiftCarry (s.setFlag false).acc = true := h
  rcases sampled_cases (s.setFlag false) l with ⟨hc, -⟩ | ⟨-, hs⟩
  · exact absurd (hc.symm.trans hcarry) Bool.false_ne_true
  · rw [hs, nextLevel_eq, nextLevel_eq s]
    simp only [State.completed, State.finish, State.setIe, State.setRun, State.shifted, hcarry]
    rfl

theorem exec_irqEntry_of_target {s : State} (hp : s.pending = true) (hj : s.jt = .readBit) :
    exec .irqEntry s = .next (((s.setFlag false).sampled s.pinRead).nextLevel) :=
  (onlyIf_of_guard hp _).trans (takeInterrupt_of_target hj)

/-- Settles O38: entry clears FLAG and runs the sampler to either of its ends. -/
theorem interruptEntryRunsTheSampler : Obligations.InterruptEntryRunsTheSampler := by
  intro s hf hie hg
  have hp : s.pending = true := by simp [State.pending, hf, hie, hg]
  refine ⟨fun hj h => ?_, fun hj h => ⟨_, (shiftAcc_append s.acc s.pinRead), ?_⟩, exec_irqEntry_of_noTarget hp⟩
  · rw [exec_irqEntry_of_target hp hj, sampled_of_unfinished h]
  · rw [exec_irqEntry_of_target hp hj, sampled_of_marker h]

/-- A sample due: FLAG is set, the interrupt taken, and TCNT takes a free value. -/
theorem exec_rxSample_of_guard {s : State} (hp : s.phase = .sampling) (hpin : s.pinRead = s.prev) (hn : s.next = 1) :
    exec .rxSample s =
      if s.ie && s.gie then takeInterrupt (s.setFlag true).loosenTcnt else .fault .samplerMasked :=
  onlyIf_of_guard (by simp [holdsLevel_iff.mpr ⟨hp, hpin⟩, hn]) _

theorem exec_rxSample_of_ready {s : State} (hp : s.phase = .sampling) (hpin : s.pinRead = s.prev) (hn : s.next = 1)
    (hj : s.jt = .readBit) (hie : s.ie = true) (hg : s.gie = true) :
    exec .rxSample s = .next ((((s.setFlag true).loosenTcnt.setFlag false).sampled s.pinRead).nextLevel) := by
  rw [exec_rxSample_of_guard hp hpin hn, hie, hg]
  exact takeInterrupt_of_target (s := (s.setFlag true).loosenTcnt) hj

theorem exec_rxSample_of_unfinished {s : State} (hp : s.phase = .sampling) (hpin : s.pinRead = s.prev) (hn : s.next = 1)
    (hj : s.jt = .readBit) (hie : s.ie = true) (hg : s.gie = true) (h : s.acc.getLsbD 23 = false) :
    exec .rxSample s =
      .next
        { s.nextLevel with
          carry := false, acc := s.acc.extractLsb' 0 23 ++ BitVec.ofBool s.pinRead, bitidx := s.bitidx + 1,
          next := s.cfg.tb, flag := false, tcnt := s.loosenTcnt.tcnt, freeCount := s.freeCount + 1 } := by
  rw [exec_rxSample_of_ready hp hpin hn hj hie hg, sampled_of_unfinished (s := (s.setFlag true).loosenTcnt) h,
    nextLevel_eq, nextLevel_eq s]
  rfl

theorem exec_rxSample_of_marker {s : State} (hp : s.phase = .sampling) (hpin : s.pinRead = s.prev) (hn : s.next = 1)
    (hj : s.jt = .readBit) (hie : s.ie = true) (hg : s.gie = true) (h : s.acc.getLsbD 23 = true) :
    exec .rxSample s =
      .next
        { s.nextLevel with
          carry := true, acc := shiftAcc s.acc s.pinRead, bitidx := s.bitidx + 1, next := s.cfg.tb, flag := false,
          tcnt := s.loosenTcnt.tcnt, freeCount := s.freeCount + 1, ie := false, run := false,
          resp := decodeResponse s.cfg (shiftAcc s.acc s.pinRead), done := true, phase := .done,
          ret := .response (decodeResponse s.cfg (shiftAcc s.acc s.pinRead)) } := by
  rw [exec_rxSample_of_ready hp hpin hn hj hie hg, sampled_of_marker (s := (s.setFlag true).loosenTcnt) h,
    nextLevel_eq, nextLevel_eq s]
  rfl

/-- The marker stands in bit 23 exactly before the 20th sample. -/
theorem AccInv.marker_iff {acc : BitVec 24} {k : Nat} (h : AccInv acc k) : acc.getLsbD 23 = true ↔ k = 19 := by
  obtain ⟨hk, hbits⟩ := h
  rw [hbits 23 (by omega) (by decide), decide_eq_true_iff]
  omega

/-- Settles O35: the sampler's two ends, and the marker that tells them apart. -/
theorem sampleShiftsThePin : Obligations.SampleShiftsThePin := by
  intro s hp hpin hn hj hie hg
  exact ⟨_, fun h => exec_rxSample_of_unfinished hp hpin hn hj hie hg h,
    fun h => ⟨_, shiftAcc_append s.acc s.pinRead, exec_rxSample_of_marker hp hpin hn hj hie hg h⟩,
    fun hinv => (hinv.sample hp).acc.marker_iff⟩

/-! ### The collision and the masked sampler (R137, U2, U21) -/

theorem exec_rxCollide_of_guard {s : State} (hp : s.phase = .sampling) (hpin : s.pinRead ≠ s.prev) (hn : s.next = 1) :
    exec .rxCollide s =
      .next { s.nextLevel with timingFault := true, tcnt := s.loosenTcnt.tcnt, freeCount := s.freeCount + 1 } := by
  refine (onlyIf_of_guard (by simp [seesEdge_iff.mpr ⟨hp, hpin⟩, hn]) _).trans ?_
  rw [nextLevel_eq, nextLevel_eq s]
  rfl

theorem advance_of_timingFault {s : State} (h : s.timingFault = true) : advance s = .fault .timing := if_pos h

theorem step_of_timingFault {s : State} (h : s.timingFault = true) (hr : s.resets.head? ≠ some 0) :
    step s = .fault .timing := by
  obtain ⟨r, hstep⟩ := (step_cases s).resolve_left fun hz => hr hz.1
  rw [hstep]
  exact advance_of_timingFault (s := { s with resets := r }) h

/-- Settles O37: the collision leaves TIMING_FAULT set; the sample is refused by its mask or its missing target. -/
theorem collisionAndMaskedSamplerStop : Obligations.CollisionAndMaskedSamplerStop := by
  intro s hp hn
  refine ⟨fun hpin => ?_, fun hpin hmask => ?_, fun hpin hie hg hj => ?_⟩
  · refine ⟨_, _, rfl, exec_rxCollide_of_guard hp hpin hn, fun hr => step_of_timingFault rfl ?_⟩
    rw [← State.nextLevel_resets s] at hr
    exact hr
  · rw [exec_rxSample_of_guard hp hpin hn]
    rcases hmask with h | h <;> simp [h]
  · rw [exec_rxSample_of_guard hp hpin hn, hie, hg]
    simp [takeInterrupt, hj]

/-! ### One rule a tick (R63, R126, D37) -/

/-- The rules of a tick of a receive. -/
def tickRules : List Instr :=
  [.rxWait, .rxOvf, .rxTimeout, .rxFirstEdge, .rxCount, .rxEdge, .rxSample, .rxCollide]

theorem guard_of_enabled {b : Bool} {r : Result} (h : onlyIf b r ≠ .refused .ruleNotEnabled) : b = true := by
  cases b with
  | true => rfl
  | false => exact absurd rfl h

/-- A tick rule whose guard holds is the one the sequencer selects. -/
theorem ownStep_of_enabled {s : State} {j : Instr} (hj : j ∈ tickRules) (h : exec j s ≠ .refused .ruleNotEnabled) :
    s.ownStep = some j := by
  simp only [tickRules, List.mem_cons, List.not_mem_nil, or_false] at hj
  rcases hj with rfl | rfl | rfl | rfl | rfl | rfl | rfl | rfl <;> replace h := guard_of_enabled h <;>
    simp only [Bool.and_eq_true, waitsHigh_iff, holdsLevel_iff, seesEdge_iff, beq_iff_eq, bne_iff_ne, decide_eq_true_iff,
      Bool.not_eq_true'] at h
  · obtain ⟨⟨hp, hpin⟩, hc⟩ := h
    exact ownStep_wait hp hpin hc
  · obtain ⟨⟨⟨hp, hpin⟩, hc⟩, hb⟩ := h
    exact ownStep_ovf hp hpin hc hb
  · obtain ⟨⟨⟨hp, hpin⟩, hc⟩, hb⟩ := h
    exact ownStep_timeout hp hpin hc hb
  · exact ownStep_firstEdge h.1 h.2
  · obtain ⟨⟨hp, hpin⟩, hn⟩ := h
    exact ownStep_count hp hpin hn
  · obtain ⟨⟨hp, hpin⟩, hn⟩ := h
    exact ownStep_edge hp hpin hn
  · obtain ⟨⟨hp, hpin⟩, hn⟩ := h
    exact ownStep_sample hp hpin hn
  · obtain ⟨⟨hp, hpin⟩, hn⟩ := h
    exact ownStep_collide hp hpin hn

/-- While waiting the sequencer selects a rule that goes on. -/
theorem ownStep_of_waiting {s : State} (hinv : s.Inv) (hp : s.phase = .waitingForFirstEdge) :
    ∃ i ∈ tickRules, s.ownStep = some i ∧ ∃ t, exec i s = .next t := by
  obtain ⟨⟨hbudget, -⟩, -⟩ := hinv.wait hp
  cases hpin : s.pinRead with
  | false => exact ⟨_, by decide, ownStep_firstEdge hp hpin, _, exec_rxFirstEdge_of_guard hp hpin⟩
  | true =>
    obtain ⟨hwait, hovf⟩ := waitingCountsTheTimer s hp hpin
    by_cases hc : s.tcnt = 255#8
    · rcases Nat.lt_or_eq_of_le hbudget with hb | hb
      · exact ⟨_, by decide, ownStep_ovf hp hpin hc hb, _, hovf hc hb⟩
      · exact ⟨_, by decide, ownStep_timeout hp hpin hc hb.symm, _, exec_rxTimeout_of_guard hp hpin hc hb.symm⟩
    · exact ⟨_, by decide, ownStep_wait hp hpin hc, _, hwait hc⟩

/-- While sampling it selects one that goes on where the interrupt is enabled. -/
theorem ownStep_of_sampling {s : State} (hinv : s.Inv) (hp : s.phase = .sampling) :
    ∃ i ∈ tickRules, s.ownStep = some i ∧ (s.gie = true → ∃ t, exec i s = .next t) := by
  have hsample := hinv.sample hp
  obtain ⟨hlo, -⟩ := hsample.next
  obtain ⟨hj, hie⟩ := hsample.irq
  obtain ⟨hcount, hedge⟩ := countAndEdgeSteps s hp
  by_cases hpin : s.pinRead = s.prev
  · rcases Nat.lt_or_eq_of_le hlo with hn | hn
    · obtain ⟨v, hexec⟩ := hcount hpin hn
      exact ⟨_, by decide, ownStep_count hp hpin hn, fun _ => ⟨_, hexec⟩⟩
    · exact ⟨_, by decide, ownStep_sample hp hpin hn.symm, fun hg => ⟨_, exec_rxSample_of_ready hp hpin hn.symm hj hie hg⟩⟩
  · by_cases hn : s.next = 1
    · exact ⟨_, by decide, ownStep_collide hp hpin hn, fun _ => ⟨_, exec_rxCollide_of_guard hp hpin hn⟩⟩
    · obtain ⟨v, hexec⟩ := hedge hpin hn
      exact ⟨_, by decide, ownStep_edge hp hpin hn, fun _ => ⟨_, hexec⟩⟩

/-- Settles O39: an enabled rule is the selected one, and the sequencer selects one. -/
theorem exactlyOneReceiverRuleApplies : Obligations.ExactlyOneReceiverRuleApplies := by
  intro s hinv hq hp
  have hturn : s.hostTurn = false := by rcases hp with hp | hp <;> exact hostTurn_of_blocks (by rw [hp]; rfl)
  obtain ⟨i, hi, hown, hgo⟩ : ∃ i ∈ tickRules, s.ownStep = some i ∧ (s.gie = true → ∃ t, exec i s = .next t) := by
    rcases hp with hp | hp
    · obtain ⟨i, hi, hown, hgo⟩ := ownStep_of_waiting hinv hp
      exact ⟨i, hi, hown, fun _ => hgo⟩
    · exact ownStep_of_sampling hinv hp
  have hstep := step_of_own hq hturn hown
  refine ⟨i, hi, hstep, fun hg => ?_, fun j hj h => ?_⟩
  · obtain ⟨t, ht⟩ := hgo hg
    exact ⟨t, hstep.trans ht⟩
  · exact Option.some_inj.mp ((ownStep_of_enabled hj h).symm.trans hown)

end Sys2Proof.Machine
end

section
/-! Which instructions write each register (spec/10_state.md sections 2 to 9): the frame of the dispatcher. -/

namespace Sys2Proof.Machine

open Sys2Proof

/-- An instruction that goes on leaves the registers, or its next state is that of its meaning, with the fields it writes. -/
theorem onlyTheNamedInstructionsWriteARegister : Obligations.OnlyTheNamedInstructionsWriteARegister := by
  intro i s t h
  rcases exec_mayWrite_or_returns h with hw | ⟨v, rfl⟩
  swap
  · simp
  cases i with
  | init | setCounter | setMaxTimeout | setShortTimeout | start | stop | clearFlag | enableInterrupt | disableInterrupt =>
    obtain ⟨-, rfl⟩ := hostWrite_eq_next.mp h
    simp
  | sendCommand w =>
    obtain ⟨-, -, -, -, rfl⟩ := exec_sendCommand_eq_next.mp h
    simp [launched_frame]
  | send bytes n =>
    obtain ⟨-, -, -, rfl⟩ := exec_send_eq_next.mp h
    obtain ⟨_, _, _, _, hl⟩ := launched_fields (s.returning .unit) (.buffer bytes n)
    simp [hl]
  | getResponse =>
    rcases exec_getResponse_cases h with ⟨-, -, rfl⟩ | ⟨-, -, -, -, rfl⟩
    · simp [State.armed]
    · simp [State.armed]
  | tickMax =>
    rw [onlyIf_next h]
    simp
  | tickShort =>
    obtain ⟨-, h⟩ := onlyIf_eq_next.mp h
    obtain ⟨-, h⟩ := ite_refused_eq_next.mp h
    cases h
    simp
  | txStep =>
    obtain ⟨_, _, _, _, _, _, _, _, _, rfl⟩ := txCycle_fields (onlyIf_eq_next.mp h).2
    simp
  | rxWait | rxOvf | rxTimeout | rxFirstEdge | rxCount | rxEdge | rxCollide | rxComplete =>
    rw [onlyIf_next h]
    simp [State.raiseError]
  | rxSample =>
    obtain ⟨-, h⟩ := onlyIf_eq_next.mp h
    split at h
    · obtain ⟨_, _, _, _, _, _, _, _, _, _, _, _, rfl⟩ := takeInterrupt_fields h
      simp
    · cases h
  | irqEntry =>
    obtain ⟨_, _, _, _, _, _, _, _, _, _, _, _, rfl⟩ := takeInterrupt_fields (onlyIf_eq_next.mp h).2
    simp
  | _ => cases hw

end Sys2Proof.Machine
end

section
/-! Every step keeps the invariant (spec/10_state.md sections 2 to 9, 42_pulsed_output.md section 3, 43_receiver.md sections 2
to 4): phase by phase, each step's next state meets the clauses of the phase it leads to. -/

namespace Sys2Proof.Machine

open Sys2Proof

/-! ### The clauses that a phase asks for -/

theorem inv_of_host {s : State} (hh : s.phase.isHosts = true) (cfg : s.cfg.ok) (done : s.done = true ↔ s.phase = .done)
    (idle : s.phase = .idle → s.jt = .none) (fault : s.timingFault = false) (tx : s.txBusy = true → s.TxInv) : s.Inv where
  cfg := cfg
  done := done
  idle := idle
  fault := fun h => by simp [fault] at h
  tx := tx
  send := fun hp => by simp [hp, Phase.isHosts] at hh
  wait := fun hp => by simp [hp, Phase.isHosts] at hh
  sample := fun hp => by simp [hp, Phase.isHosts] at hh

theorem inv_of_sending {s : State} (hp : s.phase = .sending) (cfg : s.cfg.ok) (done : s.done = false)
    (fault : s.timingFault = false) (tx : s.txBusy = true → s.TxInv) (send : s.SendInv) : s.Inv where
  cfg := cfg
  done := by simp [done, hp]
  idle := by simp [hp]
  fault := fun h => by simp [fault] at h
  tx := tx
  send := fun _ => send
  wait := by simp [hp]
  sample := by simp [hp]

theorem inv_of_waiting {s : State} (hp : s.phase = .waitingForFirstEdge) (cfg : s.cfg.ok) (done : s.done = false)
    (fault : s.timingFault = false) (wait : s.WaitInv) : s.Inv where
  cfg := cfg
  done := by simp [done, hp]
  idle := by simp [hp]
  fault := fun h => by simp [fault] at h
  tx := fun h => by simp [wait.noTx] at h
  send := by simp [hp]
  wait := fun _ => wait
  sample := by simp [hp]

theorem inv_of_sampling {s : State} (hp : s.phase = .sampling) (cfg : s.cfg.ok) (done : s.done = false)
    (sample : s.SampleInv) : s.Inv where
  cfg := cfg
  done := by simp [done, hp]
  idle := by simp [hp]
  fault := fun _ => hp
  tx := fun h => by simp [sample.noTx] at h
  send := by simp [hp]
  wait := by simp [hp]
  sample := fun _ => sample

theorem State.Inv.noFault {s : State} (h : s.Inv) (hp : s.phase ≠ .sampling) : s.timingFault = false :=
  Bool.eq_false_iff.mpr fun hf => hp (h.fault hf)

theorem State.Inv.notDone {s : State} (h : s.Inv) (hp : s.phase ≠ .done) : s.done = false :=
  Bool.eq_false_iff.mpr fun hd => hp (h.done.mp hd)

/-! ### What the invariant does not read -/

/-- The host's calls and the resets to come. -/
theorem State.Inv.withInputs {s : State} (h : s.Inv) (c : List (List Byte)) (r : List Nat) :
    ({ s with calls := c, resets := r } : State).Inv where
  cfg := h.cfg
  done := h.done
  idle := h.idle
  fault := h.fault
  tx := fun hb => have ⟨hphase, hbit, hcycle, hlevel⟩ := h.tx hb; ⟨hphase, hbit, hcycle, hlevel⟩
  send := fun hp => have ⟨hsrc, hdir, hended⟩ := h.send hp; ⟨hsrc, hdir, hended⟩
  wait := fun hp => have ⟨hbudget, hacc, hidx, hprev, htimer, htx⟩ := h.wait hp; ⟨hbudget, hacc, hidx, hprev, htimer, htx⟩
  sample := fun hp => have ⟨hacc, hnext, htimer, hirq, htx⟩ := h.sample hp; ⟨hacc, hnext, htimer, hirq, htx⟩

/-- Outside a receive, the timer's count and flag. -/
theorem State.Inv.upToTimer {s u : State} (h : s.Inv) (hp : s.phase.isHosts = true ∨ s.phase = .sending)
    (hu : s.UpToTimer u) : u.Inv := by
  obtain ⟨v, f, l, n, rfl⟩ := hu
  have htx : s.txBusy = true → ({ s with tcnt := v, flag := f, ticksIn := l, freeCount := n } : State).TxInv := fun hb =>
    have ⟨hphase, hbit, hcycle, hlevel⟩ := h.tx hb
    ⟨hphase, hbit, hcycle, hlevel⟩
  rcases hp with hp | hp
  · exact inv_of_host hp h.cfg h.done h.idle (h.noFault fun hs => by simp [hs, Phase.isHosts] at hp) htx
  · obtain ⟨hsrc, hdir, hended⟩ := h.send hp
    exact inv_of_sending hp h.cfg (h.notDone (by simp [hp])) (h.noFault (by simp [hp])) htx ⟨hsrc, hdir, hended⟩

/-! ### Reset, and the interrupt of the host's turn -/

theorem State.Inv.afterReset {s : State} (h : s.Inv) : s.afterReset.Inv :=
  inv_of_host rfl h.cfg (by simp [State.afterReset, State.reset]) (fun _ => rfl) rfl fun hb => nomatch hb

/-- An interrupt has a target in Done alone, where the sampler's two ends both stay. -/
theorem State.Inv.sampled {s : State} (h : s.Inv) (hturn : s.hostTurn = true) (hj : s.jt = .readBit) (l : Level) :
    ((s.setFlag false).sampled l).nextLevel.Inv := by
  obtain ⟨hh, hb⟩ := hostTurn_iff.mp hturn
  have hp : s.phase = .done := (isHosts_iff.mp hh).resolve_left fun hidle => by simp [h.idle hidle] at hj
  have hf := h.noFault (by simp [hp])
  have hd := h.done.mpr hp
  cases hm : s.acc.getLsbD 23 with
  | false =>
    rw [sampled_of_unfinished hm]
    exact inv_of_host (by simp [hh]) (by simpa using h.cfg) (by simp [hp, hd]) (by simp [hp]) (by simp [hf]) (by simp [hb])
  | true =>
    rw [sampled_of_marker hm]
    exact inv_of_host rfl (by simpa using h.cfg) (by simp) (by simp) (by simp [hf]) (by simp [hb])

theorem State.Inv.serviced {s t : State} (h : s.Inv) (hs : serviced s = .next t) : t.Inv := by
  rcases serviced_cases hs with ⟨-, rfl⟩ | ⟨hturn, -, hj, rfl⟩
  · exact h
  · exact h.sampled hturn hj _

/-! ### The encoder -/

theorem State.Inv.windows {s : State} (h : s.Inv) : 1 ≤ s.cfg.txA ∧ 1 ≤ s.cfg.txB ∧ 1 ≤ s.cfg.txC := by
  obtain ⟨⟨hA, hB, hC, -⟩, -⟩ := h.cfg
  exact ⟨hA, hB, hC⟩

/-- A cycle after which the `send` goes on keeps the encoder's clauses; after its last one the pin is low. -/
theorem State.TxInv.encoderCycle {s : State} (h : s.TxInv) (hwin : 1 ≤ s.cfg.txA ∧ 1 ≤ s.cfg.txB ∧ 1 ≤ s.cfg.txC)
    (hb : s.txBusy = true) :
    (s.encoderCycle.txBusy = true ∧ s.encoderCycle.TxInv) ∨
    (s.encoderCycle.txBusy = false ∧ s.encoderCycle.out = false ∧ s.encoderCycle.txi = s.txBits) := by
  obtain ⟨hphase, hbit, ⟨hlo, hhi⟩, hlevel⟩ := h
  obtain ⟨hA, hB, hC⟩ := hwin
  by_cases hcnt : 1 < s.txcnt
  · rw [encoderCycle_count hcnt]
    exact .inl ⟨hb, hphase, hbit, ⟨Nat.le_sub_one_of_lt hcnt, (Nat.sub_le _ _).trans hhi⟩, hlevel⟩
  have hle := Nat.not_lt.mp hcnt
  cases hw : s.txph with
  | winA =>
    have hout : s.out = true := by rw [hlevel, hw]; rfl
    rw [encoderCycle_winA hle hw]
    exact .inl ⟨hb, hphase, hbit, ⟨hB, le_rfl⟩, by rw [hout, Bool.true_and]; rfl⟩
  | winB =>
    rw [encoderCycle_winB hle hw]
    exact .inl ⟨hb, hphase, hbit, ⟨hC, le_rfl⟩, rfl⟩
  | winC =>
    have hout : s.out = false := by rw [hlevel, hw]; rfl
    by_cases hend : s.txi + 1 = s.txBits
    · rw [encoderCycle_last hle hw hend]
      exact .inr ⟨rfl, hout, hend⟩
    · rw [encoderCycle_next hle hw hend]
      exact .inl ⟨hb, hphase, Nat.lt_of_le_of_ne hbit hend, ⟨hA, le_rfl⟩, rfl⟩

theorem State.Inv.encoderCycle {s : State} (h : s.Inv) (hb : s.txBusy = true) : s.encoderCycle.Inv := by
  have htx := h.tx hb
  have hcycle := htx.encoderCycle h.windows hb
  obtain ⟨i, o, p, c, b, he⟩ := encoderCycle_fields s
  have htx' : s.encoderCycle.txBusy = true → s.encoderCycle.TxInv := fun hb' =>
    (hcycle.resolve_right fun ⟨hf, _⟩ => by simp [hb'] at hf).2
  rw [he] at hcycle htx' ⊢
  rcases htx.phase with hp | hp
  · exact inv_of_host hp h.cfg h.done h.idle (h.noFault fun hs => by simp [hs, Phase.isHosts] at hp) htx'
  · obtain ⟨hsrc, hdir, -⟩ := h.send hp
    have hbits : s.txBits = 16 := by rw [State.txBits, hsrc]
    refine inv_of_sending hp h.cfg (h.notDone (by simp [hp])) (h.noFault (by simp [hp])) htx' ⟨hsrc, hdir, fun hb' => ?_⟩
    obtain ⟨-, hout, hi⟩ := hcycle.resolve_left fun ⟨ht, _⟩ => absurd (ht.symm.trans hb') (by decide)
    exact ⟨hout, hi.trans hbits⟩

theorem State.Inv.txStep {s t : State} (h : s.Inv) (he : exec .txStep s = .next t) : t.Inv := by
  obtain ⟨hb, hcycle⟩ := onlyIf_eq_next.mp he
  obtain ⟨-, -, rfl⟩ := txCycle_eq_next.mp hcycle
  have hsame := State.UpToTimer.cycleTicked s
  obtain ⟨-, -, hbusy⟩ := hsame.observed
  exact (h.upToTimer (h.tx hb).phase hsame).encoderCycle (hbusy.trans hb)

/-! ### The receiver -/

theorem State.Inv.receiverCfg {s : State} (h : s.Inv) : 1 ≤ s.cfg.nTo ∧ 2 ≤ s.cfg.tb ∧ s.cfg.th = s.cfg.tb / 2 := by
  have hcfg := h.cfg
  obtain ⟨-, ⟨htb, -, hth, -, -, -, hnTo⟩, -⟩ := hcfg
  exact ⟨hnTo, htb, hth⟩

/-- Arming meets the clauses of waiting. -/
theorem inv_armed {s : State} (hcfg : s.cfg.ok) (hnTo : 1 ≤ s.cfg.nTo) (hf : s.timingFault = false)
    (hb : s.txBusy = false) : s.armed.Inv :=
  inv_of_waiting rfl hcfg rfl hf ⟨⟨hnTo, le_rfl⟩, rfl, rfl, rfl, ⟨rfl, rfl, rfl, rfl⟩, hb⟩

theorem State.Inv.getResponse {s t : State} (h : s.Inv) (he : exec .getResponse s = .next t) : t.Inv := by
  obtain ⟨hnTo, -, -⟩ := h.receiverCfg
  rcases exec_getResponse_cases he with ⟨hp, hb, rfl⟩ | ⟨hturn, -, -, -, rfl⟩
  · exact inv_armed h.cfg hnTo (h.noFault (by simp [hp])) hb
  · obtain ⟨hh, hb⟩ := hostTurn_iff.mp hturn
    exact inv_armed h.cfg hnTo (h.noFault fun hs => by simp [hs, Phase.isHosts] at hh) hb

theorem accInv_armed : AccInv 0x000010#24 0 :=
  ⟨Nat.zero_le _, fun i _ hi => by interval_cases i <;> rfl⟩

/-- A step of waiting leads to the clauses of waiting, sampling or Done. -/
theorem State.Inv.waitingStep {s t : State} {i : Instr} (h : s.Inv) (hp : s.phase = .waitingForFirstEdge)
    (hi : s.ownStep = some i) (he : exec i s = .next t) : t.Inv := by
  obtain ⟨⟨hlo, hhi⟩, hacc, hidx, hprev, ⟨hmode, hrun, hie, hflag⟩, hb⟩ := h.wait hp
  have hf := h.noFault (by simp [hp])
  have hd := h.notDone (by simp [hp])
  rcases ownStep_waiting_cases hp hi with
    ⟨hpin, rfl⟩ | ⟨hpin, hcnt, rfl⟩ | ⟨hpin, hcnt, hbudget, rfl⟩ | ⟨hpin, hcnt, hbudget, rfl⟩
  · cases (exec_rxFirstEdge_of_guard hp hpin).symm.trans he
    exact inv_of_sampling rfl (by simpa using h.cfg) (by simpa using hd)
      ⟨by simpa [hacc, hidx] using accInv_armed, by simp; have := h.receiverCfg; omega, by simp [hrun], by simp,
        by simpa using hb⟩
  · cases ((waitingCountsTheTimer s hp hpin).1 hcnt).symm.trans he
    exact inv_of_waiting (by simpa using hp) (by simpa using h.cfg) (by simpa using hd) (by simpa using hf)
      ⟨by simp [hlo, hhi], by simpa using hacc, by simpa using hidx, by simpa using hprev,
        by simp [hmode, hrun, hie, hflag], by simpa using hb⟩
  · cases ((waitingCountsTheTimer s hp hpin).2 hcnt hbudget).symm.trans he
    exact inv_of_waiting (by simpa using hp) (by simpa using h.cfg) (by simpa using hd) (by simpa using hf)
      ⟨by simp; omega, by simpa using hacc, by simpa using hidx, by simpa using hprev,
        by simp [hmode, hrun, hie], by simpa using hb⟩
  · cases (exec_rxTimeout_of_guard hp hpin hcnt hbudget).symm.trans he
    exact inv_of_host rfl (by simpa using h.cfg) (by simp) (by simp) (by simpa using hf) (by simp [hb])

/-- A sample that does not complete moves the marker up by one. -/
theorem AccInv.shift {acc : BitVec 24} {k : Nat} (h : AccInv acc k) (hm : acc.getLsbD 23 = false) (l : Level) :
    AccInv (shiftAcc acc l) (k + 1) := by
  have hne : k ≠ 19 := fun hk => absurd (hm.symm.trans (h.marker_iff.mpr hk)) Bool.false_ne_true
  obtain ⟨hk, hbits⟩ := h
  refine ⟨by omega, fun i hlo hi => ?_⟩
  rw [shiftAcc_getLsbD acc l i hi, if_neg (by omega), hbits (i - 1) (by omega) (by omega), decide_eq_decide]
  omega

/-- A step of sampling leads to the clauses of sampling or Done; the collision alone sets TIMING_FAULT. -/
theorem State.Inv.samplingStep {s t : State} {i : Instr} (h : s.Inv) (hp : s.phase = .sampling)
    (hf : s.timingFault = false) (hi : s.ownStep = some i) (he : exec i s = .next t) : t.Inv := by
  obtain ⟨hacc, ⟨hlo, hhi⟩, ⟨hmode, htop, hrun, hflag⟩, ⟨hjt, hie⟩, hb⟩ := h.sample hp
  obtain ⟨-, htb, hth⟩ := h.receiverCfg
  have hd := h.notDone (by simp [hp])
  rcases ownStep_sampling_cases hp hi with
    ⟨hpin, hnext, rfl⟩ | ⟨hpin, hnext, rfl⟩ | ⟨hpin, hnext, rfl⟩ | ⟨hpin, hnext, rfl⟩
  · obtain ⟨v, hcount⟩ := (countAndEdgeSteps s hp).1 hpin hnext
    cases hcount.symm.trans he
    exact inv_of_sampling (by simpa using hp) (by simpa using h.cfg) (by simpa using hd)
      ⟨by simpa using hacc, by simp; omega, by simp [hmode, htop, hrun, hflag], by simp [hjt, hie], by simpa using hb⟩
  · cases hg : s.gie with
    | false =>
      rw [exec_rxSample_of_guard hp hpin hnext, hg, Bool.and_false] at he
      cases he
    | true =>
      cases hm : s.acc.getLsbD 23 with
      | false =>
        cases (exec_rxSample_of_unfinished hp hpin hnext hjt hie hg hm).symm.trans he
        have hshift := hacc.shift hm s.pinRead
        rw [shiftAcc_append] at hshift
        exact inv_of_sampling (by simpa using hp) (by simpa using h.cfg) (by simpa using hd)
          ⟨by simpa using hshift, by simp; omega, by simp [hmode, htop, hrun], by simp [hjt, hie], by simpa using hb⟩
      | true =>
        cases (exec_rxSample_of_marker hp hpin hnext hjt hie hg hm).symm.trans he
        exact inv_of_host rfl (by simpa using h.cfg) (by simp) (by simp) (by simpa using hf) (by simp [hb])
  · cases onlyIf_next he
    exact inv_of_sampling (by simpa using hp) (by simpa using h.cfg) (by simpa using hd)
      ⟨by simpa using hacc, by simp [hlo, hhi], by simp [hmode, htop, hrun, hflag], by simp [hjt, hie], by simpa using hb⟩
  · obtain ⟨v, hedge⟩ := (countAndEdgeSteps s hp).2 hpin hnext
    cases hedge.symm.trans he
    exact inv_of_sampling (by simpa using hp) (by simpa using h.cfg) (by simpa using hd)
      ⟨by simpa using hacc, by simp; omega, by simp [hmode, htop, hrun, hflag], by simp [hjt, hie], by simpa using hb⟩

/-- The rules the block takes by itself keep the invariant. -/
theorem State.Inv.ownStep {s t : State} {i : Instr} (h : s.Inv) (hf : s.timingFault = false)
    (hi : s.ownStep = some i) (he : exec i s = .next t) : t.Inv := by
  cases hp : s.phase with
  | waitingForFirstEdge => exact h.waitingStep hp hi he
  | sampling => exact h.samplingStep hp hf hi he
  | idle | done =>
    simp only [State.ownStep, hp] at hi
    split_ifs at hi
    cases hi
    exact h.txStep he
  | sending =>
    simp only [State.ownStep, hp] at hi
    split_ifs at hi <;> cases hi
    · exact h.txStep he
    · exact h.getResponse he

/-! ### The host's calls -/

/-- The timer's registers and the answer of a call are free in the host's phases. -/
theorem State.Inv.timerCall {s : State} (h : s.Inv) (hh : s.phase.isHosts = true) (r e : Bool) (m : TimerMode) (p v : BitVec 8)
    (f : Bool) (a : Value) : ({ s with run := r, ie := e, mode := m, top := p, tcnt := v, flag := f, ret := a } : State).Inv :=
  inv_of_host hh h.cfg h.done h.idle (h.noFault fun hs => by simp [hs, Phase.isHosts] at hh) fun hb =>
    have ⟨hphase, hbit, hcycle, hlevel⟩ := h.tx hb
    ⟨hphase, hbit, hcycle, hlevel⟩

/-- A call keeps the invariant, and one that has the tick of its step beside it stays outside the receive. -/
theorem State.Inv.call {s t : State} {i : Instr} (h : s.Inv) (hturn : s.hostTurn = true) (hi : i.isStep = false)
    (he : exec i s = .next t) : t.Inv ∧ (hasTick i = true → t.phase.isHosts = true ∨ t.phase = .sending) := by
  obtain ⟨hh, hb⟩ := hostTurn_iff.mp hturn
  obtain ⟨hA, -, -⟩ := h.windows
  have hf := h.noFault fun hs => by simp [hs, Phase.isHosts] at hh
  have hkeeps : ∀ {u : State}, u.Inv → u.phase = s.phase →
      u.Inv ∧ (hasTick i = true → u.phase.isHosts = true ∨ u.phase = .sending) :=
    fun hu hp => ⟨hu, fun _ => .inl (hp ▸ hh)⟩
  rcases exec_mayWrite_or_returns he with hw | ⟨v, rfl⟩
  swap
  · exact hkeeps (h.timerCall hh _ _ _ _ _ _ v) rfl
  cases i with
  | init =>
    obtain ⟨-, rfl⟩ := hostWrite_eq_next.mp he
    exact ⟨inv_of_host rfl h.cfg (by simp) (fun _ => rfl) hf fun hb' => absurd (hb.symm.trans hb') (by decide),
      fun ht => nomatch ht⟩
  | sendCommand c =>
    obtain ⟨-, -, -, -, rfl⟩ := exec_sendCommand_eq_next.mp he
    exact ⟨inv_of_sending rfl h.cfg rfl hf (fun _ => ⟨.inr rfl, Nat.zero_lt_succ 15, ⟨hA, le_rfl⟩, rfl⟩)
      ⟨rfl, rfl, fun hb' => nomatch hb'⟩, fun _ => .inr rfl⟩
  | getResponse => exact ⟨h.getResponse he, fun ht => nomatch ht⟩
  | setCounter | setMaxTimeout | setShortTimeout | start | stop | clearFlag | enableInterrupt | disableInterrupt =>
    obtain ⟨-, rfl⟩ := hostWrite_eq_next.mp he
    exact hkeeps (h.timerCall hh _ _ _ _ _ _ _) rfl
  | send bytes n =>
    obtain ⟨-, -, -, rfl⟩ := exec_send_eq_next.mp he
    rcases launched_cases (s.returning .unit) (.buffer bytes n) with ⟨-, hl⟩ | ⟨hbits, hl⟩
    · rw [hl]
      exact hkeeps (inv_of_host hh h.cfg h.done h.idle hf fun hb' => absurd (hb.symm.trans hb') (by decide)) rfl
    · rw [hl]
      exact hkeeps (inv_of_host hh h.cfg h.done h.idle hf fun _ =>
        ⟨.inl hh, Nat.pos_of_ne_zero hbits, ⟨hA, le_rfl⟩, rfl⟩) rfl
  | tickMax | tickShort | txStep | rxWait | rxOvf | rxTimeout | rxFirstEdge | rxCount | rxEdge | rxSample | rxComplete
  | rxCollide | irqEntry => cases hi
  | _ => cases hw

/-- The tick beside a step keeps the invariant where the step ends outside a receive. -/
theorem State.Inv.tickAlong {s t u : State} {i : Instr} (h : t.Inv)
    (hp : hasTick i = true → t.phase.isHosts = true ∨ t.phase = .sending) (ht : tickAlong i s t = .next u) : u.Inv := by
  rcases tickAlong_cases ht with rfl | ⟨-, -, htick, -, rfl⟩
  · exact h
  · exact h.upToTimer (hp htick) ⟨_, _, t.ticksIn, t.freeCount, rfl⟩

theorem State.Inv.callStep {s u : State} {i : Instr} (h : s.Inv) (hturn : s.hostTurn = true) (hi : i.isStep = false)
    (hc : callStep i s = .next u) : u.Inv := by
  obtain ⟨t, t', hexec, htick, hserv⟩ := callStep_cases hc
  obtain ⟨ht, hp⟩ := h.call hturn hi hexec
  exact (ht.tickAlong hp htick).serviced hserv

theorem State.Inv.idleStep {s u : State} (h : s.Inv) (hh : s.phase.isHosts = true) (hc : idleStep s = .next u) : u.Inv := by
  rcases idleStep_cases hc with ⟨-, rfl⟩ | ⟨-, -, hserv⟩
  · exact h
  · exact (h.upToTimer (.inl hh) ⟨_, _, s.ticksIn, s.freeCount, rfl⟩ : s.ticked.Inv).serviced hserv

theorem State.Inv.hostStep {s u : State} (h : s.Inv) (hturn : s.hostTurn = true) (hc : hostStep s = .next u) : u.Inv := by
  obtain ⟨hh, -⟩ := hostTurn_iff.mp hturn
  rcases hostStep_cases hc with ⟨hp, t, hexec, htick⟩ | ⟨-, rest, hidle⟩ | ⟨-, b, bs, rest, i, r, -, -, hi, hcall⟩
  · obtain ⟨hjt, rfl⟩ := takeInterrupt_eq_next.mp (onlyIf_eq_next.mp hexec).2
    have hphase := takeInterrupt_phase (takeInterrupt_eq_next.mpr ⟨hjt, rfl⟩) hh h.idle
    exact (h.sampled hturn hjt _).tickAlong (fun _ => .inl (hphase ▸ hh)) htick
  · exact (h.withInputs rest s.resets).idleStep hh hidle
  · exact (h.withInputs rest s.resets).callStep hturn hi hcall

theorem State.Inv.advance {s t : State} (h : s.Inv) (ha : advance s = .next t) : t.Inv := by
  obtain ⟨hf, ⟨hturn, hhost⟩ | ⟨-, i, hi, hexec⟩⟩ := advance_cases ha
  · exact h.hostStep hturn hhost
  · exact h.ownStep hf hi hexec

/-- Settles O3: a step is the reset, the host's turn or a rule of the block, and each keeps the invariant. -/
theorem everyStepKeepsInv : Obligations.EveryStepKeepsInv := by
  intro s t h hs
  rcases step_cases s with ⟨-, hreset⟩ | ⟨r, hadv⟩
  · cases hreset.symm.trans hs
    exact h.afterReset
  · exact (h.withInputs s.calls r).advance (hadv.symm.trans hs)

end Sys2Proof.Machine
end

section
/-! Whole receives (spec/43_receiver.md sections 3 and 5, 70_reset_and_hazards.md section 2): one lemma per kind of tick, in
terms of what the receiver still has to do and the levels still to come, then runs of them over a line. -/

namespace Sys2Proof.Machine

open Sys2Proof

theorem pinRead_of_lineIn {s : State} {l : Level} {line : List Level} (hd : s.dir = .input) (hl : s.lineIn = l :: line) :
    s.pinRead = l := by simp [State.pinRead, hd, hl]

theorem State.Inv.runsTo {s t : State} {k : Nat} (h : s.Inv) (hr : RunsTo k s t) : t.Inv :=
  runsTo_keeps everyStepKeepsInv h hr

theorem runsTo_environment {s t : State} {k : Nat} (hr : RunsTo k s t) : t.environment = s.environment :=
  runsTo_keeps (P := fun u => u.environment = s.environment) (fun _ _ hu hs => (step_environment hs).trans hu) rfl hr

theorem runsTo_cfg {s t : State} {k : Nat} (hr : RunsTo k s t) : t.cfg = s.cfg :=
  have ⟨_, _, hcfg⟩ := environment_eq_iff.mp (runsTo_environment hr)
  hcfg

theorem runsTo_gie {s t : State} {k : Nat} (hr : RunsTo k s t) : t.gie = s.gie :=
  have ⟨_, hgie, _⟩ := environment_eq_iff.mp (runsTo_environment hr)
  hgie

/-! ### Waiting for the first edge (R129 to R131) -/

/-- The receiver waits, the timeout is `n` ticks away and `line` is to come. -/
structure State.Listens (s : State) (n : Nat) (line : List Level) : Prop where
  quiet : s.quiet
  phase : s.phase = .waitingForFirstEdge
  dir : s.dir = .input
  budget : 1 ≤ s.budget
  left : s.tcnt.toNat + n = 256 * s.budget
  line : s.lineIn = line

theorem State.Listens.step_eq {s : State} {n : Nat} {line : List Level} {i : Instr} (h : s.Listens n line)
    (hi : s.ownStep = some i) : step s = exec i s :=
  step_of_own h.quiet (hostTurn_of_blocks (by rw [h.phase]; rfl)) hi

/-- A tick of a high line before the last one of the timeout. -/
theorem State.Listens.tick {s : State} {n : Nat} {line : List Level} (h : s.Listens (n + 1) (true :: line)) (hn : 1 ≤ n) :
    ∃ u, step s = .next u ∧ u.Listens n line ∧ u.acc = s.acc := by
  have hp := h.phase
  have hpin := pinRead_of_lineIn h.dir h.line
  have hleft := h.left
  have hlt := s.tcnt.isLt
  obtain ⟨hresets, hfault⟩ := h.quiet
  by_cases hc : s.tcnt = 255#8
  · have hcount : s.tcnt.toNat = 255 := by rw [hc]; rfl
    have hbudget : 1 < s.budget := by omega
    refine ⟨_, (h.step_eq (ownStep_ovf hp hpin hc hbudget)).trans ((waitingCountsTheTimer s hp hpin).2 hc hbudget), ?_,
      by simp⟩
    exact ⟨⟨by simpa using hresets, by simpa using hfault⟩, by simpa using hp, by simpa using h.dir, by simp; omega,
      by simp; omega, by simp [h.dir, h.line]⟩
  · have hne : s.tcnt.toNat ≠ 255 := fun he => hc (BitVec.eq_of_toNat_eq he)
    have hsucc : (s.tcnt + 1#8).toNat = s.tcnt.toNat + 1 := by rw [BitVec.toNat_add, BitVec.toNat_ofNat]; omega
    refine ⟨_, (h.step_eq (ownStep_wait hp hpin hc)).trans ((waitingCountsTheTimer s hp hpin).1 hc), ?_, by simp⟩
    exact ⟨⟨by simpa using hresets, by simpa using hfault⟩, by simpa using hp, by simpa using h.dir,
      by simpa using h.budget, by rw [hsucc, State.nextLevel_budget]; omega, by simp [h.dir, h.line]⟩

/-- A line held high, up to the last tick of the timeout. -/
theorem State.Listens.runsTo_high {s : State} {n k : Nat} {rest : List Level}
    (h : s.Listens (n + k) (List.replicate k true ++ rest)) (hn : 1 ≤ n) :
    ∃ u, RunsTo k s u ∧ u.Listens n rest ∧ u.acc = s.acc := by
  induction k generalizing s with
  | zero => exact ⟨s, runsTo_zero.mpr rfl, h, rfl⟩
  | succ k ih =>
    obtain ⟨u, hstep, hu, hacc⟩ := State.Listens.tick (n := n + k) h (by omega)
    obtain ⟨w, hrun, hw, hacc'⟩ := ih hu
    exact ⟨w, runsTo_succ.mpr ⟨u, hstep, hrun⟩, hw, hacc'.trans hacc⟩

/-- The last tick of the timeout. -/
theorem State.Listens.timeout {s : State} {rest : List Level} (h : s.Listens 1 (true :: rest)) :
    ∃ u, step s = .next u ∧ u.phase = .done ∧ u.done = true ∧ u.resp = respOfError s.cfg .responseTimeout ∧
      u.acc = s.acc ∧ u.run = false ∧ u.lineIn = rest := by
  have hpin := pinRead_of_lineIn h.dir h.line
  have hleft := h.left
  have hlt := s.tcnt.isLt
  have hbudget : s.budget = 1 := by omega
  have hc : s.tcnt = 255#8 := BitVec.eq_of_toNat_eq (by simp; omega)
  refine ⟨_, (h.step_eq (ownStep_timeout h.phase hpin hc hbudget)).trans (exec_rxTimeout_of_guard h.phase hpin hc hbudget), ?_⟩
  simp [h.dir, h.line]

/-- A receiver that has just been armed, but for its line. -/
theorem listens_armed {s : State} {line : List Level} (hcfg : s.cfg.ok) (hq : s.quiet) (hp : s.phase = .waitingForFirstEdge)
    (hc : s.tcnt = 0#8) (hb : s.budget = s.cfg.nTo) (hd : s.dir = .input) (hl : s.lineIn = line) :
    s.Listens (256 * s.cfg.nTo) line := by
  obtain ⟨-, ⟨-, -, -, -, -, -, hnTo⟩, -⟩ := id hcfg
  exact ⟨hq, hp, hd, hb ▸ hnTo, by simp [hc, hb], hl⟩

/-- Settles O41: each high tick takes one from the ticks left, and the last is the timeout. -/
theorem timeoutComesAtTheExactTick : Obligations.TimeoutComesAtTheExactTick := by
  intro s rest hcfg hq hp hc hb hd hl
  have harmed := listens_armed hcfg hq hp hc hb hd hl
  obtain ⟨-, ⟨-, -, -, -, -, -, hnTo⟩, -⟩ := id hcfg
  have hrun : ∀ k m, 1 ≤ m → m + k = 256 * s.cfg.nTo →
      ∃ u, RunsTo k s u ∧ u.Listens m (List.replicate m true ++ rest) ∧ u.acc = s.acc := by
    intro k m hm hmk
    refine State.Listens.runsTo_high ?_ hm
    rwa [← List.append_assoc, List.replicate_append_replicate, Nat.add_comm k, hmk]
  constructor
  · intro k hk
    obtain ⟨u, hr, hu, -⟩ := hrun k (256 * s.cfg.nTo - k) (by omega) (by omega)
    exact ⟨u, hr, hu.phase⟩
  · obtain ⟨u, hr, hu, hacc⟩ := hrun (256 * s.cfg.nTo - 1) 1 le_rfl (by omega)
    obtain ⟨w, hstep, hphase, hdone, hresp, hacc', hrun', hline⟩ := hu.timeout
    have htotal := runsTo_trans hr (runsTo_one hstep)
    rw [Nat.sub_add_cancel (by omega)] at htotal
    rw [runsTo_cfg hr] at hresp
    exact ⟨w, htotal, hphase, hdone, hresp ▸ hiByte_respOfError s.cfg .responseTimeout,
      hresp ▸ loByte_respOfError s.cfg .responseTimeout, hacc'.trans hacc, hrun', hline⟩

/-! ### Sampling (R132 to R136) -/

/-- The receiver samples under the invariant: `k` levels are in `acc`, the next sample is due in `n` ticks of `l`, the level of
the last edge or sample, and `line` is to come. -/
structure State.Samples (s : State) (acc : BitVec 24) (k n : Nat) (l : Level) (line : List Level) : Prop where
  inv : s.Inv
  quiet : s.quiet
  phase : s.phase = .sampling
  dir : s.dir = .input
  acc : s.acc = acc
  bitidx : s.bitidx = k
  next : s.next = n
  prev : s.prev = l
  line : s.lineIn = line

section

variable {s : State} {acc : BitVec 24} {k n : Nat} {l : Level} {line rest : List Level}

theorem State.Samples.step_eq {i : Instr} (h : s.Samples acc k n l line) (hi : s.ownStep = some i) : step s = exec i s :=
  step_of_own h.quiet (hostTurn_of_blocks (by rw [h.phase]; rfl)) hi

theorem State.Samples.accInv (h : s.Samples acc k n l line) : AccInv acc k := by
  have hacc := (h.inv.sample h.phase).acc
  rwa [h.acc, h.bitidx] at hacc

/-- A tick at the level of the last edge or sample, before the next sample. -/
theorem State.Samples.count (h : s.Samples acc k (n + 1) l (l :: line)) (hn : 1 ≤ n) :
    ∃ u, step s = .next u ∧ u.Samples acc k n l line := by
  obtain ⟨hresets, hfault⟩ := h.quiet
  have hpin : s.pinRead = s.prev := (pinRead_of_lineIn h.dir h.line).trans h.prev.symm
  have hnext : 1 < s.next := by rw [h.next]; omega
  obtain ⟨v, hcount⟩ := (countAndEdgeSteps s h.phase).1 hpin hnext
  have hstep := (h.step_eq (ownStep_count h.phase hpin hnext)).trans hcount
  exact ⟨_, hstep, everyStepKeepsInv s _ h.inv hstep, ⟨by simpa using hresets, by simpa using hfault⟩,
    by simpa using h.phase, by simpa using h.dir, by simpa using h.acc, by simpa using h.bitidx, by simp [h.next],
    by simpa using h.prev, by simp [h.dir, h.line]⟩

/-- An edge that does not meet a sample puts the next sample half a cell away. -/
theorem State.Samples.edge (h : s.Samples acc k n l ((!l) :: line)) (hn : n ≠ 1) :
    ∃ u, step s = .next u ∧ u.Samples acc k s.cfg.th (!l) line := by
  obtain ⟨hresets, hfault⟩ := h.quiet
  have hread := pinRead_of_lineIn h.dir h.line
  have hpin : s.pinRead ≠ s.prev := by rw [hread, h.prev]; exact Bool.not_ne_self l
  have hnext : s.next ≠ 1 := h.next ▸ hn
  obtain ⟨v, hedge⟩ := (countAndEdgeSteps s h.phase).2 hpin hnext
  have hstep := (h.step_eq (ownStep_edge h.phase hpin hnext)).trans hedge
  exact ⟨_, hstep, everyStepKeepsInv s _ h.inv hstep, ⟨by simpa using hresets, by simpa using hfault⟩,
    by simpa using h.phase, by simpa using h.dir, by simpa using h.acc, by simpa using h.bitidx, rfl,
    hread, by simp [h.dir, h.line]⟩

/-- A sample before the 20th. -/
theorem State.Samples.sample (h : s.Samples acc k 1 l (l :: line)) (hg : s.gie = true) (hk : k < 19) :
    ∃ u, step s = .next u ∧ u.Samples (shiftAcc acc l) (k + 1) s.cfg.tb l line := by
  obtain ⟨hresets, hfault⟩ := h.quiet
  obtain ⟨-, -, -, ⟨hjt, hie⟩, -⟩ := h.inv.sample h.phase
  have hread := pinRead_of_lineIn h.dir h.line
  have hpin : s.pinRead = s.prev := hread.trans h.prev.symm
  have hmarker : s.acc.getLsbD 23 = false :=
    Bool.eq_false_iff.mpr fun hm => by rw [h.acc, h.accInv.marker_iff] at hm; omega
  have hstep := (h.step_eq (ownStep_sample h.phase hpin h.next)).trans
    (exec_rxSample_of_unfinished h.phase hpin h.next hjt hie hg hmarker)
  exact ⟨_, hstep, everyStepKeepsInv s _ h.inv hstep, ⟨by simpa using hresets, by simpa using hfault⟩,
    by simpa using h.phase, by simpa using h.dir, by rw [shiftAcc_append, hread, h.acc], by rw [h.bitidx], rfl,
    by simpa using h.prev, by simp [h.dir, h.line]⟩

/-- What the 20th sample leaves. -/
structure State.Received (u : State) (c : Config) (a : BitVec 24) (line : List Level) : Prop where
  phase : u.phase = .done
  done : u.done = true
  acc : u.acc = a
  bitidx : u.bitidx = 20
  resp : u.resp = decodeResponse c a
  ie : u.ie = false
  run : u.run = false
  line : u.lineIn = line

/-- The 20th sample completes the receive. -/
theorem State.Samples.finish (h : s.Samples acc 19 1 l (l :: line)) (hg : s.gie = true) :
    ∃ u, step s = .next u ∧ u.Received s.cfg (shiftAcc acc l) line := by
  obtain ⟨-, -, -, ⟨hjt, hie⟩, -⟩ := h.inv.sample h.phase
  have hread := pinRead_of_lineIn h.dir h.line
  have hpin : s.pinRead = s.prev := hread.trans h.prev.symm
  have hmarker : s.acc.getLsbD 23 = true := by rw [h.acc, h.accInv.marker_iff]
  have hstep := (h.step_eq (ownStep_sample h.phase hpin h.next)).trans
    (exec_rxSample_of_marker h.phase hpin h.next hjt hie hg hmarker)
  exact ⟨_, hstep, rfl, rfl, by rw [hread, h.acc], by rw [h.bitidx], by rw [hread, h.acc], rfl, rfl,
    by simp [h.dir, h.line]⟩

/-! ### Runs of one level -/

/-- A held level, up to the tick before the next sample. -/
theorem State.Samples.runsTo_held {j : Nat} (h : s.Samples acc k (n + j) l (List.replicate j l ++ rest)) (hn : 1 ≤ n) :
    ∃ u, RunsTo j s u ∧ u.Samples acc k n l rest := by
  induction j generalizing s with
  | zero => exact ⟨s, runsTo_zero.mpr rfl, h⟩
  | succ j ih =>
    obtain ⟨u, hstep, hu⟩ := State.Samples.count (n := n + j) h (by omega)
    obtain ⟨w, hrun, hw⟩ := ih hu
    exact ⟨w, runsTo_succ.mpr ⟨u, hstep, hrun⟩, hw⟩

/-- A level held until it is sampled. -/
theorem State.Samples.runsTo_sampled (h : s.Samples acc k n l (List.replicate n l ++ rest)) (hn : 1 ≤ n)
    (hg : s.gie = true) (hk : k < 19) :
    ∃ u, RunsTo n s u ∧ u.Samples (shiftAcc acc l) (k + 1) s.cfg.tb l rest := by
  obtain ⟨m, rfl⟩ := Nat.exists_eq_add_of_le' hn
  rw [List.replicate_succ', List.append_assoc, Nat.add_comm] at h
  obtain ⟨u, hrun, hu⟩ := h.runsTo_held le_rfl
  obtain ⟨w, hstep, hw⟩ := hu.sample ((runsTo_gie hrun).trans hg) hk
  rw [runsTo_cfg hrun] at hw
  exact ⟨w, runsTo_trans hrun (runsTo_one hstep), hw⟩

/-- A level held until its sample completes the receive, and the state the last of its ticks finds. -/
theorem State.Samples.runsTo_received (h : s.Samples acc 19 n l (List.replicate n l ++ rest)) (hn : 1 ≤ n)
    (hg : s.gie = true) :
    ∃ v u, RunsTo (n - 1) s v ∧ v.phase = .sampling ∧ v.bitidx = 19 ∧ RunsTo n s u ∧
      u.Received s.cfg (shiftAcc acc l) rest := by
  obtain ⟨m, rfl⟩ := Nat.exists_eq_add_of_le' hn
  rw [List.replicate_succ', List.append_assoc, Nat.add_comm] at h
  obtain ⟨v, hrun, hv⟩ := h.runsTo_held le_rfl
  obtain ⟨u, hstep, hu⟩ := hv.finish ((runsTo_gie hrun).trans hg)
  rw [runsTo_cfg hrun] at hu
  exact ⟨v, u, hrun, hv.phase, hv.bitidx, runsTo_trans hrun (runsTo_one hstep), hu⟩

/-- A level held for ever is sampled every `tb` ticks until the receive is complete. -/
theorem State.Samples.runsTo_complete {j : Nat} (hj : k + j = 19)
    (h : s.Samples acc k n l (List.replicate (n + j * s.cfg.tb) l ++ rest)) (hg : s.gie = true) (hn : 1 ≤ n)
    (htb : 1 ≤ s.cfg.tb) : ∃ a u, RunsTo (n + j * s.cfg.tb) s u ∧ u.Received s.cfg a rest := by
  induction j generalizing s acc k n with
  | zero =>
    obtain rfl : k = 19 := hj
    rw [Nat.zero_mul, Nat.add_zero] at h ⊢
    obtain ⟨-, u, -, -, -, hrun, hu⟩ := h.runsTo_received hn hg
    exact ⟨_, u, hrun, hu⟩
  | succ j ih =>
    rw [Nat.succ_mul, Nat.add_comm (j * s.cfg.tb)] at h ⊢
    rw [List.replicate_add, List.append_assoc] at h
    obtain ⟨u, hrun, hu⟩ := h.runsTo_sampled hn hg (by omega)
    have hcfg := runsTo_cfg hrun
    rw [← hcfg] at hu htb ⊢
    obtain ⟨a, w, hrun', hw⟩ := ih (by omega) hu ((runsTo_gie hrun).trans hg) htb htb
    exact ⟨a, w, runsTo_trans hrun hrun', hw⟩

/-- A noisy line, whose levels last less than half a cell: each edge puts the sample off again. -/
theorem State.Samples.runsTo_noisy {gaps : List Nat} (h : s.Samples acc k n l (alternating (!l) gaps ++ rest)) (hn : n ≠ 1)
    (hgaps : ∀ g ∈ gaps, 1 ≤ g ∧ g ≤ s.cfg.th - 1) :
    ∃ u n' l', RunsTo gaps.sum s u ∧ u.Samples acc k n' l' rest := by
  induction gaps generalizing s n l with
  | nil => exact ⟨s, n, l, runsTo_zero.mpr rfl, h⟩
  | cons g gs ih =>
    obtain ⟨⟨hlo, hhi⟩, hgs⟩ := List.forall_mem_cons.mp hgaps
    obtain ⟨m, rfl⟩ := Nat.exists_eq_add_of_le' hlo
    rw [alternating, List.append_assoc, List.replicate_succ] at h
    obtain ⟨u, hstep, hu⟩ := h.edge hn
    rw [show s.cfg.th = (s.cfg.th - m) + m by omega] at hu
    obtain ⟨v, hrun, hv⟩ := hu.runsTo_held (by omega)
    have hrun' := runsTo_succ.mpr ⟨u, hstep, hrun⟩
    obtain ⟨w, n', l', hrest, hw⟩ := ih hv (by omega) (runsTo_cfg hrun' ▸ hgs)
    rw [List.sum_cons]
    exact ⟨w, n', l', runsTo_trans hrun' hrest, hw⟩

end

/-- Settles O43: the samples left are taken one after the other at the level the line holds. -/
theorem heldLevelCompletes : Obligations.HeldLevelCompletes := by
  intro s rest hinv hq hg hp hd hl
  obtain ⟨⟨hk, -⟩, ⟨hn, -⟩, -, -, -⟩ := hinv.sample hp
  obtain ⟨-, htb, -⟩ := hinv.receiverCfg
  have hs : s.Samples s.acc s.bitidx s.next s.prev _ := ⟨hinv, hq, hp, hd, rfl, rfl, rfl, rfl, hl⟩
  obtain ⟨a, u, hrun, hu⟩ := hs.runsTo_complete (by omega) hg hn (by omega)
  exact ⟨u, hrun, hu.phase, hu.bitidx, hu.line⟩

/-- Settles O44: a line of short levels is an edge and a count of ticks, over and over. -/
theorem noisyLineIsNeverSampled : Obligations.NoisyLineIsNeverSampled := by
  intro s gaps rest hinv hq hp hd hn hgaps hl
  have hs : s.Samples s.acc s.bitidx s.next s.prev _ := ⟨hinv, hq, hp, hd, rfl, rfl, rfl, rfl, hl⟩
  obtain ⟨u, _, _, hrun, hu⟩ := hs.runsTo_noisy hn hgaps
  obtain ⟨-, hfault⟩ := hu.quiet
  exact ⟨u, hrun, hu.phase, hu.acc, hu.bitidx, hfault, hu.line⟩

end Sys2Proof.Machine
end

section
/-! A response received whole (spec/43_receiver.md section 5, 70_reset_and_hazards.md section 2): what holds between two cells
is kept over a cell, with an edge before it or without. -/

namespace Sys2Proof.Machine

open Sys2Proof

/-! ### The cells of a response and ACC -/

/-- The level of cell `i`: cell 0 is the start bit, which is low as bit 20 is. -/
def cellLevel (r : BitVec 20) (i : Nat) : Level := r.getLsbD (20 - i)

/-- The line from cell `i` on. -/
def cellsFrom (n : Nat) (r : BitVec 20) (i : Nat) : List Level := cells n ((false :: dataLevels r).drop i)

/-- ACC after `i` samples: the marker and the first `i` levels. -/
def accAfter (r : BitVec 20) (i : Nat) : BitVec 24 := 0x000010#24 <<< i ||| r.setWidth 24 >>> (20 - i)

theorem replicate_eq_cons {n : Nat} (hn : 1 ≤ n) (l : Level) : List.replicate n l = l :: List.replicate (n - 1) l := by
  rw [← List.replicate_succ, Nat.sub_add_cancel hn]

theorem responseLevels_eq_map (r : BitVec 20) : false :: dataLevels r = (List.range 21).map (cellLevel r) := by
  rw [List.range_succ_eq_map, List.map_cons, List.map_map]
  refine congrArg₂ _ (BitVec.getLsbD_of_ge r 20 le_rfl).symm (List.map_congr_left fun m _ => ?_)
  rw [Function.comp_apply, cellLevel, Nat.succ_eq_add_one, Nat.add_comm, ← Nat.sub_sub]

theorem getElem?_responseLevels {r : BitVec 20} {i : Nat} (hi : i < 21) :
    (false :: dataLevels r)[i]? = some (cellLevel r i) := by
  rw [responseLevels_eq_map, List.getElem?_map, List.getElem?_range hi, Option.map_some]

theorem cellsFrom_eq (n : Nat) (r : BitVec 20) {i : Nat} (hi : i < 21) :
    cellsFrom n r i = List.replicate n (cellLevel r i) ++ cellsFrom n r (i + 1) := by
  have hlen : i < (false :: dataLevels r).length := by simpa [dataLevels] using hi
  have hget := getElem?_responseLevels (r := r) hi
  rw [List.getElem?_eq_getElem hlen, Option.some_inj] at hget
  rw [cellsFrom, List.drop_eq_getElem_cons hlen, hget]
  rfl

theorem accAfter_zero (r : BitVec 20) : accAfter r 0 = 0x000010#24 := by
  have hr : r.setWidth 24 >>> 20 = 0#24 := by
    refine BitVec.eq_of_toNat_eq ?_
    rw [BitVec.toNat_ushiftRight, BitVec.toNat_setWidth_of_le (by decide), Nat.shiftRight_eq_div_pow]
    exact Nat.div_eq_of_lt r.isLt
  rw [accAfter, hr]
  rfl

theorem accAfter_twenty (r : BitVec 20) : accAfter r 20 = r.setWidth 24 := by
  rw [accAfter, Nat.sub_self, BitVec.ushiftRight_zero]
  exact BitVec.zero_or

theorem accAfter_getLsbD (r : BitVec 20) (i : Nat) {b : Nat} (hb : b < 24) :
    (accAfter r i).getLsbD b = (!decide (b < i) && (0x000010#24).getLsbD (b - i) || r.getLsbD (20 - i + b)) := by
  have hr : (r.setWidth 24).getLsbD (20 - i + b) = r.getLsbD (20 - i + b) := by
    rw [BitVec.getLsbD_setWidth]
    by_cases hlt : 20 - i + b < 24
    · simp [-BitVec.getLsbD_eq_getElem, hlt]
    · rw [BitVec.getLsbD_of_ge r _ (by omega), Bool.and_false]
  rw [accAfter, BitVec.getLsbD_or, BitVec.getLsbD_shiftLeft, BitVec.getLsbD_ushiftRight, hr, decide_eq_true hb,
    Bool.true_and]

theorem shiftAcc_accAfter (r : BitVec 20) {i : Nat} (hi : i < 20) :
    shiftAcc (accAfter r i) (cellLevel r (i + 1)) = accAfter r (i + 1) := by
  apply BitVec.eq_of_getLsbD_eq
  intro b hb
  rw [shiftAcc_getLsbD _ _ _ hb, accAfter_getLsbD r (i + 1) hb]
  rcases b with _ | b
  · simp [cellLevel, -BitVec.getLsbD_eq_getElem]
  · rw [if_neg (Nat.succ_ne_zero b), Nat.add_sub_cancel, accAfter_getLsbD r i (by omega), Nat.add_sub_add_right,
      show 20 - (i + 1) + (b + 1) = 20 - i + b by omega]
    simp only [Nat.add_lt_add_iff_right]

/-! ### Cells that clock recovery can follow -/

/-- Cells of `n` ticks, of which no level lasts more than `M`: sample `m` after an edge falls inside its cell, and an edge after
`m` cells between two samples. -/
structure CellsFit (c : Config) (r : BitVec 20) (n M : Nat) : Prop where
  pos : 1 ≤ M
  ticks : ∀ m, 1 ≤ m → m ≤ M → m * n < m * c.tb + c.th ∧ m * c.tb + c.th < m * n + c.tb
  levels : ∀ i, i + M < 21 → ∃ k, k < M ∧ cellLevel r (i + k) ≠ cellLevel r (i + k + 1)

/-- Cells of exactly `tb` ticks fit whatever the levels. -/
theorem cellsFit_ideal {c : Config} (r : BitVec 20) (hth : 1 ≤ c.th) (hlt : c.th < c.tb) : CellsFit c r c.tb 21 :=
  ⟨by decide, fun _ _ _ => ⟨by omega, by omega⟩, fun _ hi => by omega⟩

/-- A level that has lasted for the `m` cells up to cell `i`. -/
def Lasts (r : BitVec 20) (i m : Nat) : Prop := m ≤ i + 1 ∧ ∀ j < m, cellLevel r (i - j) = cellLevel r i

theorem lasts_one (r : BitVec 20) (i : Nat) : Lasts r i 1 :=
  ⟨Nat.le_add_left 1 i, fun j hj => by rw [Nat.lt_one_iff.mp hj, Nat.sub_zero]⟩

theorem Lasts.succ {r : BitVec 20} {i m : Nat} (h : Lasts r i m) (heq : cellLevel r (i + 1) = cellLevel r i) :
    Lasts r (i + 1) (m + 1) := by
  obtain ⟨hm, hlevel⟩ := h
  refine ⟨Nat.succ_le_succ hm, fun j hj => ?_⟩
  rcases j with _ | j
  · rfl
  · rw [Nat.add_sub_add_right, hlevel j (Nat.lt_of_succ_lt_succ hj), heq]

/-- No level lasts longer than it may. -/
theorem CellsFit.le_of_lasts {c : Config} {r : BitVec 20} {n M i m : Nat} (h : CellsFit c r n M) (hi : i < 21)
    (hlast : Lasts r i m) : m ≤ M := by
  obtain ⟨hm, hlevel⟩ := hlast
  by_contra hlong
  obtain ⟨k, hk, hne⟩ := h.levels (i - M) (by omega)
  refine hne ?_
  rw [show i - M + k = i - (M - k) by omega, show i - (M - k) + 1 = i - (M - k - 1) by omega, hlevel _ (by omega),
    hlevel _ (by omega)]

/-! ### Cell by cell -/

/-- Cells 0 to `i` are read, the last edge `m` cells ago: the next sample is the one due `m` cell times after that edge. -/
structure State.AfterCell (s : State) (r : BitVec 20) (n i m : Nat) (rest : List Level) : Prop where
  pos : 1 ≤ m
  lasts : Lasts r i m
  samples : s.Samples (accAfter r i) i (m * s.cfg.tb + s.cfg.th + 1 - m * n) (cellLevel r i) (cellsFrom n r (i + 1) ++ rest)

section

variable {s : State} {r : BitVec 20} {n M i m : Nat} {rest : List Level}

/-- A cell is entered with an edge (`e` = 1) or without (`e` = 0); its sample falls inside it, and leaves the next sample due
after its end. -/
theorem State.AfterCell.enter (h : s.AfterCell r n i m rest) (hfit : CellsFit s.cfg r n M) (hth : 1 ≤ s.cfg.th) (hi : i < 20) :
    ∃ e q m' u, RunsTo e s u ∧ 1 ≤ q ∧ e + q ≤ n ∧ 1 ≤ m' ∧ Lasts r (i + 1) m' ∧
      e + q + m' * n + s.cfg.tb = m' * s.cfg.tb + s.cfg.th + 1 + n ∧
      m' * n < m' * s.cfg.tb + s.cfg.th ∧
      u.Samples (accAfter r i) i q (cellLevel r (i + 1))
        (List.replicate (n - e) (cellLevel r (i + 1)) ++ (cellsFrom n r (i + 2) ++ rest)) := by
  obtain ⟨hpos, hlasts, hs⟩ := h
  have hfits := hfit.ticks m hpos (hfit.le_of_lasts (by omega) hlasts)
  rw [cellsFrom_eq n r (by omega), List.append_assoc] at hs
  by_cases heq : cellLevel r (i + 1) = cellLevel r i
  · have hlasts' := hlasts.succ heq
    have hfits' := hfit.ticks (m + 1) (by omega) (hfit.le_of_lasts (by omega) hlasts')
    rw [← heq] at hs
    rw [Nat.succ_mul, Nat.succ_mul] at hfits'
    refine ⟨0, _, m + 1, s, runsTo_zero.mpr rfl, ?_, ?_, by omega, hlasts', ?_, ?_, hs⟩
    · omega
    · omega
    · rw [Nat.succ_mul, Nat.succ_mul]; omega
    · rw [Nat.succ_mul, Nat.succ_mul]; omega
  · obtain ⟨hlo, hhi⟩ := hfit.ticks 1 le_rfl hfit.pos
    have hne : cellLevel r (i + 1) = !cellLevel r i := Bool.eq_not_of_ne heq
    rw [hne, replicate_eq_cons (by omega), List.cons_append] at hs
    obtain ⟨u, hstep, hu⟩ := hs.edge (by omega)
    rw [← hne] at hu
    exact ⟨1, s.cfg.th, 1, u, runsTo_one hstep, hth, by omega, le_rfl, lasts_one r (i + 1), by omega, hlo, hu⟩

/-- A cell before the last. -/
theorem State.AfterCell.runsTo_next (h : s.AfterCell r n i m rest) (hfit : CellsFit s.cfg r n M) (hth : 1 ≤ s.cfg.th)
    (hg : s.gie = true) (hi : i < 19) : ∃ m' u, RunsTo n s u ∧ u.AfterCell r n (i + 1) m' rest := by
  obtain ⟨e, q, m', u, hrun, hq, hqn, hm', hlasts, hdue, hfits, hu⟩ := h.enter hfit hth (by omega)
  rw [show n - e = q + (n - e - q) by omega, List.replicate_add, List.append_assoc] at hu
  obtain ⟨v, hrunv, hv⟩ := hu.runsTo_sampled hq ((runsTo_gie hrun).trans hg) hi
  rw [shiftAcc_accAfter r (by omega), runsTo_cfg hrun,
    show s.cfg.tb = m' * s.cfg.tb + s.cfg.th + 1 - m' * n + (n - e - q) by omega] at hv
  obtain ⟨w, hrunw, hw⟩ := hv.runsTo_held (by omega)
  have htotal := runsTo_trans (runsTo_trans hrun hrunv) hrunw
  rw [show e + q + (n - e - q) = n by omega] at htotal
  exact ⟨m', w, htotal, hm', hlasts, (runsTo_cfg htotal).symm ▸ hw⟩

/-- The last cell: its sample completes the receive. -/
theorem State.AfterCell.runsTo_last (h : s.AfterCell r n 19 m rest) (hfit : CellsFit s.cfg r n M) (hth : 1 ≤ s.cfg.th)
    (hg : s.gie = true) :
    ∃ k v u rest', k + 1 ≤ n ∧ (n = s.cfg.tb → k = s.cfg.th) ∧ RunsTo k s v ∧ v.phase = .sampling ∧ v.bitidx = 19 ∧
      RunsTo (k + 1) s u ∧ u.Received s.cfg (r.setWidth 24) rest' := by
  obtain ⟨e, q, m', w, hrun, hq, hqn, hm', hlasts, hdue, hfits, hw⟩ := h.enter hfit hth (by decide)
  rw [show n - e = q + (n - e - q) by omega, List.replicate_add, List.append_assoc] at hw
  obtain ⟨v, u, hrunv, hphase, hidx, hrunu, hu⟩ := hw.runsTo_received hq ((runsTo_gie hrun).trans hg)
  rw [shiftAcc_accAfter r (by decide), accAfter_twenty, runsTo_cfg hrun] at hu
  have hv := runsTo_trans hrun hrunv
  have hu' := runsTo_trans hrun hrunu
  rw [show e + q = e + (q - 1) + 1 by omega] at hu'
  refine ⟨e + (q - 1), v, u, _, by omega, fun hn => ?_, hv, hphase, hidx, hu', hu⟩
  rw [← hn] at hdue
  omega

/-- The cells up to the last but one, one after the other. -/
theorem State.AfterCell.runsTo_cell (h : s.AfterCell r n 0 m rest) (hfit : CellsFit s.cfg r n M) (hth : 1 ≤ s.cfg.th)
    (hg : s.gie = true) (hi : i ≤ 19) : ∃ m' u, RunsTo (i * n) s u ∧ u.AfterCell r n i m' rest := by
  induction i with
  | zero => exact ⟨m, s, (Nat.zero_mul n).symm ▸ runsTo_zero.mpr rfl, h⟩
  | succ i ih =>
    obtain ⟨m', u, hrun, hu⟩ := ih (by omega)
    have hcfg := runsTo_cfg hrun
    obtain ⟨m'', w, hrun', hw⟩ := hu.runsTo_next (hcfg ▸ hfit) (hcfg ▸ hth) ((runsTo_gie hrun).trans hg) hi
    rw [Nat.succ_mul]
    exact ⟨m'', w, runsTo_trans hrun hrun', hw⟩

/-- The first edge starts sampling, the first sample a cell and a half away. -/
theorem State.Listens.firstEdge {k : Nat} {line : List Level} (h : s.Listens k (false :: line)) (hinv : s.Inv) :
    ∃ u, step s = .next u ∧ u.Samples 0x000010#24 0 (s.cfg.tb + s.cfg.th) false line := by
  have hpin := pinRead_of_lineIn h.dir h.line
  have hwait := hinv.wait h.phase
  obtain ⟨hresets, hfault⟩ := h.quiet
  have hstep := (h.step_eq (ownStep_firstEdge h.phase hpin)).trans (exec_rxFirstEdge_of_guard h.phase hpin)
  exact ⟨_, hstep, everyStepKeepsInv s _ hinv hstep, ⟨by simpa using hresets, by simpa using hfault⟩, rfl,
    by simpa using h.dir, by simpa using hwait.acc, by simpa using hwait.bitidx, rfl, rfl, by simp [h.dir, h.line]⟩

/-- The start bit. -/
theorem State.Listens.runsTo_startBit {k : Nat} (h : s.Listens k (cellsFrom n r 0 ++ rest)) (hinv : s.Inv)
    (hfit : CellsFit s.cfg r n M) : ∃ u, RunsTo n s u ∧ u.AfterCell r n 0 1 rest := by
  obtain ⟨hlo, hhi⟩ := hfit.ticks 1 le_rfl hfit.pos
  have hstart : cellLevel r 0 = false := BitVec.getLsbD_of_ge r 20 le_rfl
  rw [cellsFrom_eq n r (by decide), hstart, replicate_eq_cons (by omega), List.cons_append, List.cons_append, List.append_assoc] at h
  obtain ⟨u, hstep, hu⟩ := h.firstEdge hinv
  rw [show s.cfg.tb + s.cfg.th = 1 * s.cfg.tb + s.cfg.th + 1 - 1 * n + (n - 1) by omega] at hu
  obtain ⟨w, hrun, hw⟩ := hu.runsTo_held (by omega)
  have htotal := runsTo_succ.mpr ⟨u, hstep, hrun⟩
  rw [Nat.sub_add_cancel (by omega)] at htotal
  exact ⟨w, htotal, le_rfl, lasts_one r 0, by rw [runsTo_cfg htotal, accAfter_zero, hstart]; exact hw⟩

/-- A whole response after `h` high ticks, and the state that its last sample finds. -/
theorem State.Listens.runsTo_response {h : Nat} (hinv : s.Inv) (hg : s.gie = true) (hh : h < 256 * s.cfg.nTo)
    (hs : s.Listens (256 * s.cfg.nTo) (List.replicate h true ++ (cellsFrom n r 0 ++ rest))) (hfit : CellsFit s.cfg r n M) :
    ∃ k v u rest', k + 1 ≤ h + 21 * n ∧ (n = s.cfg.tb → k = h + 20 * s.cfg.tb + s.cfg.th) ∧ RunsTo k s v ∧
      v.phase = .sampling ∧ v.bitidx = 19 ∧ RunsTo (k + 1) s u ∧ u.Received s.cfg (r.setWidth 24) rest' := by
  obtain ⟨-, htb, hth⟩ := hinv.receiverCfg
  rw [show 256 * s.cfg.nTo = 256 * s.cfg.nTo - h + h by omega] at hs
  obtain ⟨s0, hrun0, hs0, -⟩ := hs.runsTo_high (by omega)
  have hcfg0 := runsTo_cfg hrun0
  obtain ⟨s1, hrun1, hs1⟩ := hs0.runsTo_startBit (hinv.runsTo hrun0) (hcfg0 ▸ hfit)
  have hrun01 := runsTo_trans hrun0 hrun1
  have hcfg1 := runsTo_cfg hrun01
  have hg1 := (runsTo_gie hrun01).trans hg
  obtain ⟨m, s2, hrun2, hs2⟩ := hs1.runsTo_cell (i := 19) (hcfg1 ▸ hfit) (by rw [hcfg1]; omega) hg1 le_rfl
  have hrun02 := runsTo_trans hrun01 hrun2
  have hcfg2 := runsTo_cfg hrun02
  obtain ⟨k, v, u, rest', hk, hideal, hrunv, hphase, hidx, hrunu, hu⟩ :=
    hs2.runsTo_last (hcfg2 ▸ hfit) (by rw [hcfg2]; omega) ((runsTo_gie hrun02).trans hg)
  rw [hcfg2] at hideal hu
  have htotal := runsTo_trans hrun02 hrunu
  rw [← Nat.add_assoc] at htotal
  refine ⟨h + n + 19 * n + k, v, u, rest', by omega, fun hn => ?_, runsTo_trans hrun02 hrunv, hphase, hidx, htotal, hu⟩
  rw [hideal hn, ← hn]
  omega

end

/-- Settles O42: cells of `tb` ticks are one case of cells that clock recovery follows, and there the last sample's tick is
known. -/
theorem idealResponseIsReceived : Obligations.IdealResponseIsReceived := by
  intro s h r rest hinv hq hg hp hc hb hd hh
  obtain ⟨-, htb, hth⟩ := hinv.receiverCfg
  have hlistens {n : Nat} (hl : s.lineIn = List.replicate h true ++ cells n (false :: dataLevels r) ++ rest) :
      s.Listens (256 * s.cfg.nTo) (List.replicate h true ++ (cellsFrom n r 0 ++ rest)) :=
    listens_armed hinv.cfg hq hp hc hb hd (hl.trans (List.append_assoc ..))
  constructor
  · intro hl
    obtain ⟨k, v, u, rest', -, hk, hrunv, hphase, hidx, hrunu, hu⟩ :=
      (hlistens hl).runsTo_response hinv hg hh (cellsFit_ideal r (by omega) (by omega))
    rw [hk rfl] at hrunv hrunu
    exact ⟨v, u, hrunv, hphase, hidx, hrunu, hu.phase, hu.done, hu.acc, hu.resp, hu.ie, hu.run⟩
  · intro n M hM hticks hlevels hl
    have hfit : CellsFit s.cfg r n M := by
      refine ⟨hM, hticks, fun i hi => ?_⟩
      obtain ⟨k, hk, hne⟩ := hlevels i hi
      rw [getElem?_responseLevels (by omega), getElem?_responseLevels (by omega)] at hne
      exact ⟨k, hk, fun heq => hne (congrArg some heq)⟩
    obtain ⟨k, v, u, rest', hk, -, -, -, -, hrunu, hu⟩ := (hlistens hl).runsTo_response hinv hg hh hfit
    exact ⟨k + 1, u, hk, hrunu, hu.phase, hu.done, hu.acc, hu.resp, hu.ie, hu.run⟩

end Sys2Proof.Machine
end

section
/-! The waveform of a whole `send` (spec/42_pulsed_output.md sections 2 and 3): the encoder's part and the timer's part of a
cycle do not meet, so a run of cycles is so many of the one after so many of the other. -/

namespace Sys2Proof.Machine

open Sys2Proof

/-! ### The two parts of a cycle -/

theorem encoderCycle_cycleTicked (s : State) : s.cycleTicked.encoderCycle = s.encoderCycle.cycleTicked := by
  obtain ⟨i, o, p, c, b, he⟩ := encoderCycle_fields s
  rw [cycleTicked_eq s, encoderCycle_timer, cycleTicked_eq s.encoderCycle, he]
  rfl

theorem iterate_cycle (j : Nat) (s : State) :
    (fun s : State => s.cycleTicked.encoderCycle)^[j] s = State.encoderCycle^[j] (State.cycleTicked^[j] s) :=
  congrFun (Function.Commute.comp_iterate (f := State.encoderCycle) (g := State.cycleTicked) encoderCycle_cycleTicked j) s

theorem iterate_encoderCycle_fields (j : Nat) (s : State) :
    ∃ i o p c b, State.encoderCycle^[j] s = { s with txi := i, out := o, txph := p, txcnt := c, txBusy := b } := by
  induction j with
  | zero => exact ⟨_, _, _, _, _, rfl⟩
  | succ j ih =>
    obtain ⟨_, _, _, _, _, hj⟩ := ih
    obtain ⟨_, _, _, _, _, hs⟩ := encoderCycle_fields (State.encoderCycle^[j] s)
    rw [Function.iterate_succ_apply', hs, hj]
    exact ⟨_, _, _, _, _, rfl⟩

theorem State.UpToTimer.iterate_encoderCycle {s u : State} (h : s.UpToTimer u) (j : Nat) :
    (State.encoderCycle^[j] s).UpToTimer (State.encoderCycle^[j] u) := by
  induction j generalizing s u with
  | zero => exact h
  | succ j ih => exact ih h.encoderCycle

theorem State.UpToTimer.iterate_cycleTicked (s : State) (j : Nat) : s.UpToTimer (State.cycleTicked^[j] s) := by
  induction j generalizing s with
  | zero => exact .refl s
  | succ j ih => exact (State.UpToTimer.cycleTicked s).trans (ih s.cycleTicked)

theorem iterate_cycleTicked_stopped {s : State} (h : s.run = false) (j : Nat) : State.cycleTicked^[j] s = s := by
  refine Function.iterate_fixed ?_ j
  rw [State.cycleTicked, tickDue_off h]
  exact nextCycle_off h

/-- While a `send` is in progress, a run of `j` cycles is `j` cycles of the timer and then `j` of the encoder. -/
theorem State.Transmits.runsTo_cycles {s : State} {j k : Nat} (h : s.Transmits (j + k))
    (hb : ∀ i < j, (State.encoderCycle^[i] s).txBusy = true) :
    RunsTo j s (State.encoderCycle^[j] (State.cycleTicked^[j] s)) ∧
      (State.encoderCycle^[j] (State.cycleTicked^[j] s)).Transmits k := by
  induction j generalizing k with
  | zero => exact ⟨runsTo_zero.mpr rfl, Nat.zero_add k ▸ h⟩
  | succ j ih =>
    rw [Nat.add_right_comm, Nat.add_assoc] at h
    obtain ⟨hrun, htx⟩ := ih h fun i hi => hb i (Nat.lt_succ_of_lt hi)
    obtain ⟨-, -, hbusy⟩ := ((State.UpToTimer.iterate_cycleTicked s j).iterate_encoderCycle j).observed
    rw [← iterate_cycle] at hrun htx hbusy
    rw [← iterate_cycle, Function.iterate_succ_apply']
    exact ⟨runsTo_trans hrun (runsTo_one (htx.step_eq (hbusy.trans (hb j j.lt_succ_self)))), htx.nextCycle⟩

/-! ### The encoder over the bits of a buffer -/

/-- The first cycle of a `send` of `n` bits. -/
structure State.SendStart (s : State) (n : Nat) : Prop where
  start : s.BitStart
  busy : s.txBusy = true
  bits : s.txBits = n
  pos : 1 ≤ n
  first : s.txi = 0

theorem State.BitStart.withTxi {s : State} (h : s.BitStart) (i : Nat) : ({ s with txi := i } : State).BitStart :=
  ⟨h.windows, h.txph, h.txcnt, h.out⟩

section

variable {s : State} {n : Nat}

theorem State.SendStart.iterate_bits (h : s.SendStart n) {b : Nat} (hb : b < n) :
    State.encoderCycle^[b * bitCycles s.cfg] s = { s with txi := b } := by
  induction b with
  | zero =>
    rw [Nat.zero_mul]
    exact congrArg (fun i => ({ s with txi := i } : State)) h.first
  | succ b ih =>
    have hmore : b + 1 ≠ ({ s with txi := b } : State).txBits := fun hend => absurd (hend.trans h.bits) (by omega)
    rw [Nat.succ_mul, Nat.add_comm, Function.iterate_add_apply, ih (by omega)]
    exact ((h.start.withTxi b).iterate_bitCycles).trans (if_neg hmore)

theorem State.SendStart.iterate_cycles (h : s.SendStart n) {j : Nat} (hj : j < n * bitCycles s.cfg) :
    State.encoderCycle^[j] s = ({ s with txi := j / bitCycles s.cfg } : State).inBit (j % bitCycles s.cfg) := by
  have hpos : 0 < bitCycles s.cfg := Nat.pos_of_mul_pos_left (Nat.zero_lt_of_lt hj)
  have hbit : j / bitCycles s.cfg < n := Nat.div_lt_of_lt_mul (Nat.mul_comm n _ ▸ hj)
  conv_lhs => rw [← Nat.mod_add_div' j (bitCycles s.cfg)]
  rw [Function.iterate_add_apply, h.iterate_bits hbit]
  exact (h.start.withTxi _).iterate_eq_inBit (Nat.mod_lt _ hpos)

theorem State.SendStart.txBusy_iterate (h : s.SendStart n) {j : Nat} (hj : j < n * bitCycles s.cfg) :
    (State.encoderCycle^[j] s).txBusy = true := by
  rw [h.iterate_cycles hj, inBit_txBusy]
  exact h.busy

/-- The level within a bit as the closed form gives it. -/
theorem State.BitStart.out_inBit (h : s.BitStart) (j : Nat) :
    (s.inBit j).out = (decide (j < s.cfg.txA) || (decide (j < s.cfg.txA + s.cfg.txB) && s.txBit)) := by
  rcases lt_or_ge j s.cfg.txA with ha | ha
  · rw [inBit_winA ha, decide_eq_true ha, Bool.true_or]
    exact h.out
  rw [decide_eq_false (Nat.not_lt.mpr ha), Bool.false_or]
  rcases lt_or_ge j (s.cfg.txA + s.cfg.txB) with hb | hb
  · rw [inBit_winB ha hb, decide_eq_true hb, Bool.true_and]
  · rw [inBit_winC hb, decide_eq_false (Nat.not_lt.mpr hb), Bool.false_and]

theorem State.SendStart.out_iterate (h : s.SendStart n) {j : Nat} (hj : j < n * bitCycles s.cfg) :
    (State.encoderCycle^[j] s).out = waveLevel s.cfg (fun i => bitOf s.cfg.msbFirst s.txBuf i) j := by
  rw [h.iterate_cycles hj]
  exact (h.start.withTxi _).out_inBit _

/-- After the last cycle of the last bit the `send` is over. -/
theorem State.SendStart.iterate_end (h : s.SendStart n) :
    State.encoderCycle^[n * bitCycles s.cfg] s =
      { s with txi := n, txBusy := false, out := false, txph := .winC, txcnt := 1 } := by
  obtain ⟨m, rfl⟩ := Nat.exists_eq_add_of_le' h.pos
  have hlast : m + 1 = ({ s with txi := m } : State).txBits := h.bits.symm
  rw [Nat.succ_mul, Nat.add_comm, Function.iterate_add_apply, h.iterate_bits m.lt_succ_self]
  exact ((h.start.withTxi m).iterate_bitCycles).trans (if_pos hlast)

end

/-! ### The timer over the cycles of a `send` -/

theorem tickCount_max {s : State} (h : s.mode = .max) : s.tickCount = s.tcnt + 1#8 := by
  rw [State.tickCount, limit_max h]
  split
  · next hc => rw [hc]; rfl
  · rfl

/-- Over cycles of which `l` tells the ticks, a timer in max-timeout mode counts the ticks, and FLAG tells whether it passed
255. -/
theorem iterate_cycleTicked_count {s : State} {l rest : List Bool} (hr : s.run = true) (hm : s.mode = .max)
    (hl : s.ticksIn = l ++ rest) :
    (State.cycleTicked^[l.length] s).tcnt = s.tcnt + BitVec.ofNat 8 (l.count true) ∧
      (State.cycleTicked^[l.length] s).flag = (s.flag || decide (256 ≤ s.tcnt.toNat + l.count true)) := by
  induction l generalizing s with
  | nil =>
    have hlt : ¬256 ≤ s.tcnt.toNat := Nat.not_le.mpr s.tcnt.isLt
    simp [hlt]
  | cons b l ih =>
    have hdue : s.tickDue = b := tickDue_input hr hl
    have hlimit := limit_max hm
    have hlt := s.tcnt.isLt
    have hnext : s.cycleTicked.run = true ∧ s.cycleTicked.mode = .max ∧ s.cycleTicked.ticksIn = l ++ rest := by
      rw [cycleTicked_eq]
      exact ⟨hr, hm, by rw [if_pos hr, hl]; rfl⟩
    obtain ⟨hr', hm', hl'⟩ := hnext
    obtain ⟨hcount, hflag⟩ := ih hr' hm' hl'
    rw [List.length_cons, Function.iterate_succ_apply, hcount, hflag, cycleTicked_eq]
    cases b with
    | false => simp [hdue]
    | true =>
      simp only [hdue, if_true, Bool.true_and, tickCount_max hm, List.count_cons_self]
      refine ⟨by rw [BitVec.add_assoc, Nat.add_comm, BitVec.ofNat_add], ?_⟩
      rw [tickSetsFlag_eq_decide, hlimit, Bool.or_assoc]
      congr 1
      by_cases hc : s.tcnt = 255#8
      · have hfull : s.tcnt.toNat = 255 := by rw [hc]; rfl
        rw [decide_eq_true hc, Bool.true_or, decide_eq_true (by omega)]
      · have hne : s.tcnt.toNat ≠ 255 := fun he => hc (BitVec.eq_of_toNat_eq he)
        have hsucc : (s.tcnt + 1#8).toNat = s.tcnt.toNat + 1 := by rw [BitVec.toNat_add, BitVec.toNat_ofNat]; omega
        rw [decide_eq_false hc, Bool.false_or, hsucc, Nat.add_assoc, Nat.add_comm 1]

/-- A clock of `p` cycles a tick gives one tick every `p` cycles. -/
theorem count_tickCycles {p phase j c : Nat} (hp : 1 ≤ p) (hlo : phase ≤ c * p) (hhi : c * p < phase + p) :
    phase + j ≤ ((tickCycles p phase j).count true + c) * p ∧
      ((tickCycles p phase j).count true + c) * p < phase + j + p := by
  induction j with
  | zero => simpa [tickCycles] using ⟨hlo, hhi⟩
  | succ j ih =>
    obtain ⟨ihlo, ihhi⟩ := ih
    have hsucc : (tickCycles p phase (j + 1)).count true =
        (tickCycles p phase j).count true + if (j + phase) % p = 0 then 1 else 0 := by
      simp [tickCycles, List.range_succ, List.count_singleton]
    rw [hsucc, Nat.add_right_comm]
    generalize (tickCycles p phase j).count true + c = m at ihlo ihhi
    have hm : phase + j = m * p ↔ (j + phase) % p = 0 := by
      rw [← Nat.dvd_iff_mod_eq_zero, Nat.add_comm j]
      refine ⟨fun h => h ▸ Nat.dvd_mul_left p m, fun ⟨q, hq⟩ => ?_⟩
      rw [hq, Nat.mul_comm p] at ihlo ihhi ⊢
      rw [← Nat.succ_mul] at ihhi
      have hle := Nat.le_of_mul_le_mul_right ihlo hp
      have hlt := Nat.lt_of_mul_lt_mul_right ihhi
      rw [show q = m by omega]
    split_ifs with htick
    · rw [Nat.succ_mul]
      have hexact := hm.mpr htick
      omega
    · have hne : phase + j ≠ m * p := fun h => htick (hm.mp h)
      rw [show m + 0 = m from rfl]
      omega

/-- So after `j` cycles the ticks are within one of `j` / `p`. -/
theorem count_tickCycles_bounds {p : Nat} (hp : 1 ≤ p) (phase j : Nat) :
    j < ((tickCycles p phase j).count true + 1) * p ∧ (tickCycles p phase j).count true * p < j + p := by
  have hceil := Nat.div_add_mod (phase + p - 1) p
  have hmod := Nat.mod_lt (phase + p - 1) hp
  rw [Nat.mul_comm] at hceil
  obtain ⟨hlo, hhi⟩ := count_tickCycles (phase := phase) (j := j) (c := (phase + p - 1) / p) hp (by omega) (by omega)
  rw [Nat.add_mul] at hlo hhi
  rw [Nat.succ_mul]
  omega

theorem tickCycles_add (p phase j k : Nat) :
    ∃ rest, tickCycles p phase (j + k) = tickCycles p phase j ++ rest := by
  rw [tickCycles, List.range_add, List.map_append]
  exact ⟨_, rfl⟩

/-- Settles O29: in every cycle the encoder is where the closed form has it, beside so many cycles of the timer. -/
theorem waveformClosedForm : Obligations.WaveformClosedForm := by
  intro s n hcfg hq hu hb hp hbits hn hi hph hcnt hout
  obtain ⟨⟨hA, hB, hC, -, hpre, -⟩, -⟩ := hcfg
  have hstart : s.SendStart n := ⟨⟨⟨hA, hB, hC⟩, hph, hcnt, hout⟩, hb, hbits, hn, hi⟩
  have hrun {j : Nat} (hj : j ≤ n * bitCycles s.cfg) :
      RunsTo j s (State.encoderCycle^[j] (State.cycleTicked^[j] s)) := by
    have htx : s.Transmits (j + (n * bitCycles s.cfg - j)) := ⟨hq, (Nat.add_sub_cancel' hj).symm ▸ hu, hp⟩
    exact (htx.runsTo_cycles fun i hij => hstart.txBusy_iterate (hij.trans_le hj)).1
  have hsame (j : Nat) := (State.UpToTimer.iterate_cycleTicked s j).iterate_encoderCycle j
  refine ⟨fun j hj => ⟨_, hrun (Nat.le_of_lt hj), ?_⟩, fun hr hm phase rest hticks j hj => ?_, ?_⟩
  · obtain ⟨_, _, _, _, hj'⟩ := hsame j
    obtain ⟨_, _, _, _, _, hfields⟩ := iterate_encoderCycle_fields j s
    have hdir : (State.encoderCycle^[j] s).dir = s.dir := by rw [hfields]
    rw [hj']
    exact ⟨hdir, hstart.txBusy_iterate hj, hstart.out_iterate hj⟩
  · obtain ⟨more, hsplit⟩ := tickCycles_add s.cfg.prescale phase j (n * bitCycles s.cfg - j)
    rw [Nat.add_sub_cancel' hj] at hsplit
    rw [hsplit, List.append_assoc] at hticks
    obtain ⟨hcount, hflag⟩ := iterate_cycleTicked_count hr hm hticks
    rw [show (tickCycles s.cfg.prescale phase j).length = j by simp [tickCycles]] at hcount hflag
    obtain ⟨_, _, _, _, _, hfields⟩ := iterate_encoderCycle_fields j (State.cycleTicked^[j] s)
    refine ⟨_, _, hrun hj, ?_, ?_, count_tickCycles_bounds hpre phase j⟩
    · rw [hfields]; exact hcount
    · rw [hfields]; exact hflag
  · obtain ⟨_, _, _, _, hend⟩ := hsame (n * bitCycles s.cfg)
    rw [hstart.iterate_end] at hend
    refine ⟨_, hrun le_rfl, by rw [hend], by rw [hend], by rw [hend], by rw [hend], by rw [hend], fun hr => ?_⟩
    rw [iterate_cycleTicked_stopped hr, hstart.iterate_end]

end Sys2Proof.Machine
end

section
/-! A whole `sendCommand` call (spec/46_top_level.md section 2): its call step, the cycles of the frame and the arming step. -/

namespace Sys2Proof.Machine

open Sys2Proof

/-- The state a call of `sendCommand` launches the frame in. -/
def State.frameLaunched (s : State) (w : BitVec 16) : State :=
  ({ s with cmd := w, done := false, phase := .sending, dir := .output, ret := .unit } : State).launched .frame

/-- The call step of `sendCommand`: the frame is launched, and the timer may have counted beside it. -/
theorem step_sendCommand {s : State} {w : BitVec 16} {rest : List (List Byte)} {k : Nat} (hq : s.quiet)
    (ht : s.hostTurn = true) (hready : s.ready = true) (hmsb : s.cfg.msbFirst = true) (hirq : s.irqDiscipline = true)
    (hu : s.undisturbed (k + 1)) (hc : s.calls = encode (.sendCommand w) :: rest) :
    ∃ u, step s = .next u ∧ (({ s with calls := rest } : State).frameLaunched w).UpToTimer u ∧ u.undisturbed k := by
  have hexec : exec (.sendCommand w) { s with calls := rest } = .next (({ s with calls := rest } : State).frameLaunched w) :=
    exec_sendCommand_eq_next.mpr ⟨ht, hready, hmsb, hirq, rfl⟩
  have hdecode : decode (encode (.sendCommand w)) = .ok (.sendCommand w, []) := by
    have h := decodeInvertsEncode (.sendCommand w) [] rfl
    rwa [List.append_nil] at h
  have hcall : step s = callStep (.sendCommand w) { s with calls := rest } := by
    rw [step_of_turn hq ht]
    exact hostStep_of_decoded hu.1 hc hdecode rfl
  have hul : (({ s with calls := rest } : State).frameLaunched w).undisturbed (k + 1) := hu
  rw [hcall, callStep, hexec, andThen_next]
  rcases Bool.eq_false_or_eq_true s.run with hr | hr
  · have hul' := hul.ticked hr
    have htick := tickAlong_of_tick (i := .sendCommand w) (s := { s with calls := rest })
      (t := ({ s with calls := rest } : State).frameLaunched w) hr hr rfl (hu.2 hr).1
    rw [htick, andThen_next]
    exact ⟨_, serviced_of_notPending hul'.1, ⟨_, _, _, _, rfl⟩, hul'⟩
  · have htick := tickAlong_of_stopped (s := { s with calls := rest })
      (t := ({ s with calls := rest } : State).frameLaunched w) (.inl hr) (.sendCommand w)
    rw [htick, andThen_next, serviced_of_notPending hul.1]
    exact ⟨_, rfl, .refl _, hul.of_succ⟩

theorem frameLaunched_sendStart {s : State} {w : BitVec 16} (h : s.cfg.txOk) : (s.frameLaunched w).SendStart 16 := by
  obtain ⟨hA, hB, hC, -⟩ := h
  exact ⟨⟨⟨hA, hB, hC⟩, rfl, rfl, rfl⟩, rfl, rfl, by decide, rfl⟩

theorem State.SendStart.upToTimer {s u : State} {n : Nat} (h : s.SendStart n) (hu : s.UpToTimer u) : u.SendStart n := by
  obtain ⟨⟨hwindows, htxph, htxcnt, hout⟩, hbusy, hbits, hn, hfirst⟩ := h
  obtain ⟨_, _, _, _, rfl⟩ := hu
  exact ⟨⟨hwindows, htxph, htxcnt, hout⟩, hbusy, hbits, hn, hfirst⟩

/-- A frame that is sent undisturbed ends in the arming of the receiver (R170). -/
theorem State.Transmits.runsTo_armed {s : State} (h : s.Transmits (16 * bitCycles s.cfg)) (hstart : s.SendStart 16)
    (hp : s.phase = .sending) :
    ∃ u, RunsTo (16 * bitCycles s.cfg + 1) s (u.setDir .input).armed ∧
      ({ s with txi := 16, txBusy := false, out := false, txph := .winC, txcnt := 1 } : State).UpToTimer u := by
  obtain ⟨hrun, hsent⟩ := State.Transmits.runsTo_cycles (k := 0) h fun i hi => hstart.txBusy_iterate hi
  have hsame := (State.UpToTimer.iterate_cycleTicked s (16 * bitCycles s.cfg)).iterate_encoderCycle (16 * bitCycles s.cfg)
  rw [hstart.iterate_end] at hsame
  generalize State.encoderCycle^[16 * bitCycles s.cfg] (State.cycleTicked^[16 * bitCycles s.cfg] s) = u at hrun hsent hsame
  refine ⟨u, runsTo_trans hrun (runsTo_one ?_), hsame⟩
  have hq := hsent.quiet
  obtain ⟨_, _, _, _, rfl⟩ := hsame
  exact (step_of_own hq (hostTurn_of_blocks (by rw [hp]; rfl)) (ownStep_sent hp rfl)).trans (exec_getResponse_of_sent hp rfl)

/-- Settles O30: the call's step, the frame's cycles and the arming step, one run after the other. -/
theorem sendCommandEndsArmed : Obligations.SendCommandEndsArmed := by
  intro s w rest hcfg hq ht hready hu hmsb hg hirq hc
  obtain ⟨htx, -⟩ := id hcfg
  obtain ⟨t, hstep, hlaunched, hut⟩ := step_sendCommand (k := 16 * bitCycles s.cfg) hq ht hready hmsb
    (irqDiscipline_iff.mpr ⟨hg, hirq⟩) (Nat.add_comm 1 _ ▸ hu) hc
  have hstart : (({ s with calls := rest } : State).frameLaunched w).SendStart 16 := frameLaunched_sendStart htx
  have hstart' := hstart.upToTimer hlaunched
  have hsends : t.quiet ∧ t.phase = .sending ∧ t.cfg = s.cfg := by
    obtain ⟨_, _, _, _, rfl⟩ := hlaunched
    exact ⟨hq, rfl, rfl⟩
  obtain ⟨hqt, hpt, hct⟩ := hsends
  obtain ⟨u, hrun, hsent⟩ := State.Transmits.runsTo_armed ⟨hqt, hct ▸ hut, .inr hpt⟩ hstart' hpt
  have htotal := runsTo_trans (runsTo_one hstep) hrun
  rw [← Nat.add_assoc, hct] at htotal
  refine ⟨_, htotal, ?_⟩
  obtain ⟨_, _, _, _, rfl⟩ := hlaunched
  obtain ⟨_, _, _, _, rfl⟩ := hsent
  exact ⟨rfl, rfl, rfl, rfl, rfl, rfl, rfl, rfl, rfl, rfl, rfl, rfl, rfl, rfl, rfl, rfl⟩

end Sys2Proof.Machine
end
